-- ==== Sys2Proof/Word.lean ====
section
/-! DEFINITION. The two word types of the block: the data byte and the cycle word. -/

namespace Sys2Proof

/-- A task-file register, a data byte, an opcode: `REG_W = DATA_W_READ = 8` (R9, R56). -/
abbrev Byte := BitVec 8

/-- The 14-bit cycle word `W` of format CYCLE14 (R70, R72). -/
abbrev CycleWord := BitVec 14

end Sys2Proof
end

