-- ==== Sys2Proof/Machine/Annotation.lean ====
section
/-! DEFINITION. Names of registers and the annotation records of the output port (44_annotations.md). -/

namespace Sys2Proof

/-- `RegisterId`, the registers the classifier names (R52, R105). -/
inductive RegId where
  | data | features | error | sectorCount | lba0 | lba1 | lba2 | device
  | command | status | deviceControl | altStatus | driveAddress
deriving DecidableEq, Repr

/-- The eleven registers of the shadow bank, primary and high-order (R20, R224). -/
inductive TfField where
  | features | sectorCount | lba0 | lba1 | lba2 | device
  | hobFeatures | hobSectorCount | hobLba0 | hobLba1 | hobLba2
deriving DecidableEq, Repr

/-- Direction of a raw Data access (R235). -/
inductive Dir where
  | write | read
deriving DecidableEq, Repr

/-- Addressing mode, selected by bit 6 of the Device register (R34, R182). -/
inductive AddrMode where
  | chs | lba
deriving DecidableEq, Repr

/-- What `deriveAddressing` yields (R182). `sc` and `lba` are held at their extended widths, 16 and 48 bits;
the 8-bit and 28-bit values of the not extended case are zero-extended (log 15). -/
structure Addressing where
  mode : AddrMode
  sc   : BitVec 16
  lba  : BitVec 48
  ext  : Bool
deriving DecidableEq, Repr

/-- The eight annotation categories (R222). -/
inductive Category where
  | registerWrite | registerRead | command | cdb | status | deviceControl | interrupt | warning
deriving DecidableEq, Repr

/-- The three groups downstream consumers expect (R222, conflict C4). -/
inductive CategoryGroup where
  | commands | regs | interruptSignals
deriving DecidableEq, Repr

/-- The structured payloads, the normative content of a record (R224 to R231, R234, R235). -/
inductive Payload where
  /-- `RegWrite{field, value}`, R224. -/
  | regWrite (field : TfField) (value : Byte)
  /-- `DevCtl{value, srst, nien, hob}`, R225. -/
  | devCtl (value : Byte) (srst nien hob : Bool)
  /-- `StatusRead{reg, value}`, R226. -/
  | statusRead (reg : RegId) (value : Byte)
  /-- `RegRead{reg, value}`, R227. -/
  | regRead (reg : RegId) (value : Byte)
  /-- `IntrqCleared{}`, R228. -/
  | intrqCleared
  /-- `Command{opcode, mnemonic, sc, lba, ext, device, mode}`, R229; `sc`, `lba`, `ext`, `mode` are `addr`. -/
  | command (opcode : Byte) (mnemonic : String) (addr : Addressing) (device : Byte)
  /-- `CdbByte{index, value, mnemonic}`, R230. -/
  | cdbByte (index : Nat) (value : Byte) (mnemonic : Option String)
  /-- `CdbComplete{bytes}`, R231. -/
  | cdbComplete (bytes : List Byte)
  /-- `CdbMarker{value}`, R234. -/
  | cdbMarker (value : Byte)
  /-- `DataRaw{dir, value}`, R235. -/
  | dataRaw (dir : Dir) (value : Byte)
deriving DecidableEq, Repr

/-- One annotation record `Ann{ss, es, cat, payload}` (R221). -/
structure Ann where
  ss      : Nat
  es      : Nat
  cat     : Category
  payload : Payload
deriving DecidableEq, Repr

end Sys2Proof
end

