-- ==== Sys2Proof/Config.lean ====
section
/-! DEFINITION. Fixed parameters (R9) and the open functions ANN_END and RENDER (R12), which have no body. -/

namespace Sys2Proof.Config

/-- CDB_LEN, the expected length a capture starts with (R9, R24). -/
def cdbLen : Nat := 12

/-- PACKET_OPCODE (R9). -/
def packetOpcode : Byte := 0xA0#8

/-- HOB_BIT of the Device-Control byte (R9, R33). -/
def hobBit : Nat := 7

/-- SRST_BIT of the Device-Control byte (R9, R33). -/
def srstBit : Nat := 2

/-- NIEN_BIT of the Device-Control byte (R9, R33). -/
def nienBit : Nat := 1

/-- LBA_MODE_BIT of the Device byte (R9, R34). -/
def lbaModeBit : Nat := 6

/-- DEV_HEAD_MASK of the Device byte (R9, R34). -/
def devHeadMask : Byte := 0x0F#8

/-- Free value, no body (log 6): how far the end sample `ANN_END(ss)` lies after `ss`. Every function from start to
end sample with `ANN_END(ss) >= ss` (R223) is `ss` plus such a gap. -/
opaque annEndGap : Nat → Nat

/-- Free value, no body (log 7): `RENDER(payload)`, the text of every record but the Command record (R237). -/
opaque render : Payload → String

end Sys2Proof.Config
end

