-- ==== Sys2Proof/Syntax.lean ====
section
/-! DEFINITION. The instructions: one constructor per row of the opcode table, that is, per class of bus cycle (R2, R74). -/

namespace Sys2Proof

/-- One recognised bus cycle, by class (R74). `d` is the data byte D. The four NONE classes also carry the bits
their pattern leaves free: the direction `wr` and the register address `da`. -/
inductive Instr where
  /-- DATA_W, `dddddddd000101`. -/
  | dataW (d : Byte)
  /-- FEATURES_W, `dddddddd001101`. -/
  | featuresW (d : Byte)
  /-- SECCNT_W, `dddddddd010101`. -/
  | seccntW (d : Byte)
  /-- LBA0_W, `dddddddd011101`. -/
  | lba0W (d : Byte)
  /-- LBA1_W, `dddddddd100101`. -/
  | lba1W (d : Byte)
  /-- LBA2_W, `dddddddd101101`. -/
  | lba2W (d : Byte)
  /-- DEVICE_W, `dddddddd110101`. -/
  | deviceW (d : Byte)
  /-- COMMAND_W, `dddddddd111101` with `d` other than 0xA0. -/
  | commandW (d : Byte)
  /-- COMMAND_PACKET_W, `10100000111101`. -/
  | commandPacketW
  /-- DATA_R, `dddddddd000100`. -/
  | dataR (d : Byte)
  /-- ERROR_R, `dddddddd001100`. -/
  | errorR (d : Byte)
  /-- SECCNT_R, `dddddddd010100`. -/
  | seccntR (d : Byte)
  /-- LBA0_R, `dddddddd011100`. -/
  | lba0R (d : Byte)
  /-- LBA1_R, `dddddddd100100`. -/
  | lba1R (d : Byte)
  /-- LBA2_R, `dddddddd101100`. -/
  | lba2R (d : Byte)
  /-- DEVICE_R, `dddddddd110100`. -/
  | deviceR (d : Byte)
  /-- STATUS_R, `dddddddd111100`. -/
  | statusR (d : Byte)
  /-- DEVCTL_W, `dddddddd110011`. -/
  | devctlW (d : Byte)
  /-- ALTSTATUS_R, `dddddddd110010`. -/
  | altstatusR (d : Byte)
  /-- DRVADDR_W, `dddddddd111011`. -/
  | drvaddrW (d : Byte)
  /-- DRVADDR_R, `dddddddd111010`. -/
  | drvaddrR (d : Byte)
  /-- NONE_CTL_0_3, `dddddddd0xx01x`: control block, DA 0 to 3. -/
  | noneCtl03 (wr : Bool) (da : BitVec 3) (d : Byte)
  /-- NONE_CTL_4_5, `dddddddd10x01x`: control block, DA 4 or 5. -/
  | noneCtl45 (wr : Bool) (da : BitVec 3) (d : Byte)
  /-- NONE_BOTH_SEL, `ddddddddxxx00x`: both selects active. -/
  | noneBothSel (wr : Bool) (da : BitVec 3) (d : Byte)
  /-- NONE_NO_SEL, `ddddddddxxx11x`: neither select active. -/
  | noneNoSel (wr : Bool) (da : BitVec 3) (d : Byte)
deriving DecidableEq, Repr

end Sys2Proof
end

