-- ==== Sys2Proof/WellFormed.lean ====
section
/-! DEFINITION. Which instructions the encoding admits: the operand ranges of R74. -/

namespace Sys2Proof

/-- An instruction is well-formed when its operands lie in the range its row of R74 gives: COMMAND_W excludes the
PACKET opcode (R75), NONE_CTL_0_3 has DA 0 to 3, NONE_CTL_4_5 has DA 4 or 5. Every other operand is free. -/
def Instr.wf : Instr → Bool
  | .commandW d => d != 0xA0#8
  | .noneCtl03 _ da _ => decide (da.toNat < 4)
  | .noneCtl45 _ da _ => decide (4 ≤ da.toNat) && decide (da.toNat < 6)
  | .dataW _ | .featuresW _ | .seccntW _ | .lba0W _ | .lba1W _ | .lba2W _ | .deviceW _ => true
  | .commandPacketW => true
  | .dataR _ | .errorR _ | .seccntR _ | .lba0R _ | .lba1R _ | .lba2R _ | .deviceR _ | .statusR _ => true
  | .devctlW _ | .altstatusR _ | .drvaddrW _ | .drvaddrR _ => true
  | .noneBothSel _ _ _ | .noneNoSel _ _ _ => true

end Sys2Proof
end

