-- ==== Sys2Proof/Decode.lean ====
section
/-! DEFINITION. The decoder from cycle words and from bytes, the encoder, and the opcode table of R74. -/

namespace Sys2Proof

/-- WR, bit 0: 1 for a write (R72). -/
def wrOf (w : CycleWord) : Bool := w.getLsbD 0

/-- CS0N, bit 1, active-low (R72). -/
def cs0nOf (w : CycleWord) : Bool := w.getLsbD 1

/-- CS1N, bit 2, active-low (R72). -/
def cs1nOf (w : CycleWord) : Bool := w.getLsbD 2

/-- DA, bits 5:3 (R72). -/
def daOf (w : CycleWord) : BitVec 3 := w.extractLsb' 3 3

/-- D, bits 13:6 (R72). -/
def dOf (w : CycleWord) : Byte := w.extractLsb' 6 8

/-- Cycles with CS0- alone active: the command block (R52, R74). COMMAND_PACKET_W is checked before COMMAND_W (R75). -/
def decodeCommandBlock (wr : Bool) (da : BitVec 3) (d : Byte) : Instr :=
  match wr, da.toNat with
  | true, 0 => .dataW d
  | true, 1 => .featuresW d
  | true, 2 => .seccntW d
  | true, 3 => .lba0W d
  | true, 4 => .lba1W d
  | true, 5 => .lba2W d
  | true, 6 => .deviceW d
  | true, _ => if d = Config.packetOpcode then .commandPacketW else .commandW d
  | false, 0 => .dataR d
  | false, 1 => .errorR d
  | false, 2 => .seccntR d
  | false, 3 => .lba0R d
  | false, 4 => .lba1R d
  | false, 5 => .lba2R d
  | false, 6 => .deviceR d
  | false, _ => .statusR d

/-- Cycles with CS1- alone active: the control block (R52, R74). -/
def decodeControlBlock (wr : Bool) (da : BitVec 3) (d : Byte) : Instr :=
  if da.toNat < 4 then .noneCtl03 wr da d
  else if da.toNat < 6 then .noneCtl45 wr da d
  else match wr, da.toNat with
    | true, 6 => .devctlW d
    | true, _ => .drvaddrW d
    | false, 6 => .altstatusR d
    | false, _ => .drvaddrR d

/-- The decoder: every 14-bit word is exactly one class (R75, R76). -/
def decodeWord (w : CycleWord) : Instr :=
  match cs0nOf w, cs1nOf w with
  | false, false => .noneBothSel (wrOf w) (daOf w) (dOf w)
  | true, true => .noneNoSel (wrOf w) (daOf w) (dOf w)
  | false, true => decodeCommandBlock (wrOf w) (daOf w) (dOf w)
  | true, false => decodeControlBlock (wrOf w) (daOf w) (dOf w)

/-- Why bytes are no cycle word. -/
inductive DecodeReject where
  /-- Fewer than two bytes. -/
  | truncated
  /-- A bit above bit 13 is set: no word is longer than 14 bits (R72). -/
  | beyondFourteenBits
deriving DecidableEq, Repr

/-- The decoder on bytes: a cycle word in two bytes, the low byte first, bits 15:14 zero (log 16). It answers the
instruction and the bytes after it. -/
def decodeBytes : List Byte → Except DecodeReject (Instr × List Byte)
  | b0 :: b1 :: rest =>
    if b1.extractLsb' 6 2 = 0#2 then .ok (decodeWord (b1.extractLsb' 0 6 ++ b0), rest)
    else .error .beyondFourteenBits
  | _ => .error .truncated

/-- The encoder: the fixed bits of the instruction's row of R74 with the operands in their fields. -/
def encode : Instr → CycleWord
  | .dataW d => d ++ 0b000101#6
  | .featuresW d => d ++ 0b001101#6
  | .seccntW d => d ++ 0b010101#6
  | .lba0W d => d ++ 0b011101#6
  | .lba1W d => d ++ 0b100101#6
  | .lba2W d => d ++ 0b101101#6
  | .deviceW d => d ++ 0b110101#6
  | .commandW d => d ++ 0b111101#6
  | .commandPacketW => 0b10100000111101#14
  | .dataR d => d ++ 0b000100#6
  | .errorR d => d ++ 0b001100#6
  | .seccntR d => d ++ 0b010100#6
  | .lba0R d => d ++ 0b011100#6
  | .lba1R d => d ++ 0b100100#6
  | .lba2R d => d ++ 0b101100#6
  | .deviceR d => d ++ 0b110100#6
  | .statusR d => d ++ 0b111100#6
  | .devctlW d => d ++ 0b110011#6
  | .altstatusR d => d ++ 0b110010#6
  | .drvaddrW d => d ++ 0b111011#6
  | .drvaddrR d => d ++ 0b111010#6
  | .noneCtl03 wr da d => d ++ da ++ 0b01#2 ++ BitVec.ofBool wr
  | .noneCtl45 wr da d => d ++ da ++ 0b01#2 ++ BitVec.ofBool wr
  | .noneBothSel wr da d => d ++ da ++ 0b00#2 ++ BitVec.ofBool wr
  | .noneNoSel wr da d => d ++ da ++ 0b11#2 ++ BitVec.ofBool wr

/-- The encoder on bytes, in the layout `decodeBytes` reads. -/
def encodeBytes (i : Instr) : List Byte :=
  [(encode i).extractLsb' 0 8, (0#2 : BitVec 2) ++ (encode i).extractLsb' 8 6]

/-- One row of the opcode map: a word matches it when `w &&& mask = pattern` (R74). -/
structure OpcodeRow where
  mnemonic : String
  pattern  : CycleWord
  mask     : CycleWord
deriving DecidableEq, Repr

/-- The opcode map of R74, in its order. -/
def opcodeTable : List OpcodeRow :=
  [⟨"DATA_W", 0x0005#14, 0x003F#14⟩, ⟨"FEATURES_W", 0x000D#14, 0x003F#14⟩,
   ⟨"SECCNT_W", 0x0015#14, 0x003F#14⟩, ⟨"LBA0_W", 0x001D#14, 0x003F#14⟩,
   ⟨"LBA1_W", 0x0025#14, 0x003F#14⟩, ⟨"LBA2_W", 0x002D#14, 0x003F#14⟩,
   ⟨"DEVICE_W", 0x0035#14, 0x003F#14⟩, ⟨"COMMAND_W", 0x003D#14, 0x003F#14⟩,
   ⟨"COMMAND_PACKET_W", 0x283D#14, 0x3FFF#14⟩] ++
  [⟨"DATA_R", 0x0004#14, 0x003F#14⟩, ⟨"ERROR_R", 0x000C#14, 0x003F#14⟩,
   ⟨"SECCNT_R", 0x0014#14, 0x003F#14⟩, ⟨"LBA0_R", 0x001C#14, 0x003F#14⟩,
   ⟨"LBA1_R", 0x0024#14, 0x003F#14⟩, ⟨"LBA2_R", 0x002C#14, 0x003F#14⟩,
   ⟨"DEVICE_R", 0x0034#14, 0x003F#14⟩, ⟨"STATUS_R", 0x003C#14, 0x003F#14⟩] ++
  [⟨"DEVCTL_W", 0x0033#14, 0x003F#14⟩, ⟨"ALTSTATUS_R", 0x0032#14, 0x003F#14⟩,
   ⟨"DRVADDR_W", 0x003B#14, 0x003F#14⟩, ⟨"DRVADDR_R", 0x003A#14, 0x003F#14⟩,
   ⟨"NONE_CTL_0_3", 0x0002#14, 0x0026#14⟩, ⟨"NONE_CTL_4_5", 0x0022#14, 0x0036#14⟩,
   ⟨"NONE_BOTH_SEL", 0x0000#14, 0x0006#14⟩, ⟨"NONE_NO_SEL", 0x0006#14, 0x0006#14⟩]

/-- The mnemonic of the class an instruction belongs to, as the opcode table spells it. -/
def Instr.mnemonic : Instr → String
  | .dataW _ => "DATA_W"
  | .featuresW _ => "FEATURES_W"
  | .seccntW _ => "SECCNT_W"
  | .lba0W _ => "LBA0_W"
  | .lba1W _ => "LBA1_W"
  | .lba2W _ => "LBA2_W"
  | .deviceW _ => "DEVICE_W"
  | .commandW _ => "COMMAND_W"
  | .commandPacketW => "COMMAND_PACKET_W"
  | .dataR _ => "DATA_R"
  | .errorR _ => "ERROR_R"
  | .seccntR _ => "SECCNT_R"
  | .lba0R _ => "LBA0_R"
  | .lba1R _ => "LBA1_R"
  | .lba2R _ => "LBA2_R"
  | .deviceR _ => "DEVICE_R"
  | .statusR _ => "STATUS_R"
  | .devctlW _ => "DEVCTL_W"
  | .altstatusR _ => "ALTSTATUS_R"
  | .drvaddrW _ => "DRVADDR_W"
  | .drvaddrR _ => "DRVADDR_R"
  | .noneCtl03 _ _ _ => "NONE_CTL_0_3"
  | .noneCtl45 _ _ _ => "NONE_CTL_4_5"
  | .noneBothSel _ _ _ => "NONE_BOTH_SEL"
  | .noneNoSel _ _ _ => "NONE_NO_SEL"

/-- The row of the opcode map for a word, in the priority of R75: COMMAND_PACKET_W first, then the first row that
matches. -/
def rowOfWord (w : CycleWord) : Option OpcodeRow :=
  (opcodeTable.filter (fun r => r.mnemonic == "COMMAND_PACKET_W") ++ opcodeTable).find?
    (fun r => w &&& r.mask == r.pattern)

/-- What the decoder reads from the table word `w` of `nbits` bits, in the two-byte layout of `decodeBytes`. -/
def decodeTableWord (nbits w : Nat) : Option Instr :=
  let v := w % 2 ^ nbits
  if v < 65536 then
    match decodeBytes [BitVec.ofNat 8 v, BitVec.ofNat 8 (v / 256)] with
    | .ok (i, _) => some i
    | .error _ => none
  else none

end Sys2Proof
end

