-- ==== Sys2Proof/Machine/State.lean ====
section
/-! DEFINITION. The state of the block, its reset value, and the reasons a step or a reset can stop. -/

namespace Sys2Proof.Machine

/-- The channels of the sample port (R13). -/
inductive Channel where
  | d0 | d1 | d2 | d3 | d4 | d5 | d6 | d7 | d8 | d9 | d10 | d11 | d12 | d13 | d14 | d15
  | diow | dior | cs0 | cs1 | da0 | da1 | da2
  | intrq | reset | iordy | dmarq | dmack | dasp | pdiag | iocs16
deriving DecidableEq, Repr

/-- One `LogicSample`: its index and the level of each channel's line (R13). The line of a channel that is not wired
carries a level too, which no rule reads: `level` answers false for it (R31). -/
structure Sample where
  idx : Nat := 0
  d0 : Bool := false
  d1 : Bool := false
  d2 : Bool := false
  d3 : Bool := false
  d4 : Bool := false
  d5 : Bool := false
  d6 : Bool := false
  d7 : Bool := false
  d8 : Bool := false
  d9 : Bool := false
  d10 : Bool := false
  d11 : Bool := false
  d12 : Bool := false
  d13 : Bool := false
  d14 : Bool := false
  d15 : Bool := false
  diow : Bool := false
  dior : Bool := false
  cs0 : Bool := false
  cs1 : Bool := false
  da0 : Bool := false
  da1 : Bool := false
  da2 : Bool := false
  intrq : Bool := false
  reset : Bool := false
  iordy : Bool := false
  dmarq : Bool := false
  dmack : Bool := false
  dasp : Bool := false
  pdiag : Bool := false
  iocs16 : Bool := false
deriving DecidableEq, Repr

/-- The presence table PRES: one bit per optional channel. The bits of the 15 mandatory channels are hard-wired to 1
and so are not stored (R31). -/
structure Pres where
  d8 : Bool := false
  d9 : Bool := false
  d10 : Bool := false
  d11 : Bool := false
  d12 : Bool := false
  d13 : Bool := false
  d14 : Bool := false
  d15 : Bool := false
  intrq : Bool := false
  reset : Bool := false
  iordy : Bool := false
  dmarq : Bool := false
  dmack : Bool := false
  dasp : Bool := false
  pdiag : Bool := false
  iocs16 : Bool := false
deriving DecidableEq, Repr

/-- The four name tables, each a partial map from an 8-bit code to a name (R11, R32), as lists of entries of which
the first with a code counts. The one entry the source fixes, `STD_CMD(0x20)`, is hard-wired in the lookup (log 9). -/
structure Tables where
  cusCmd : List (Byte × String) := []
  stdCmd : List (Byte × String) := []
  cusCdb : List (Byte × String) := []
  stdCdb : List (Byte × String) := []
deriving DecidableEq, Repr

/-- The open parameter SIMUL_STROBE (R109). -/
inductive SimulStrobe where
  | write | read | discard
deriving DecidableEq, Repr

/-- The task-file shadow bank: six primary and five high-order registers (R20). -/
structure TaskFile where
  features       : Byte := 0#8
  sectorCount    : Byte := 0#8
  lba0           : Byte := 0#8
  lba1           : Byte := 0#8
  lba2           : Byte := 0#8
  device         : Byte := 0#8
  hobFeatures    : Byte := 0#8
  hobSectorCount : Byte := 0#8
  hobLba0        : Byte := 0#8
  hobLba1        : Byte := 0#8
  hobLba2        : Byte := 0#8
deriving DecidableEq, Repr

/-- The CDB capture (R24). `Idle` is `active = false`; `CapturingCdb(n)` is `active = true` with `n` bytes collected
(R25). -/
structure CdbCapture where
  active         : Bool := false
  collected      : List Byte := []
  expectedLength : Nat := Config.cdbLen
deriving DecidableEq, Repr

/-- The edge detector (R28). -/
structure EdgeDetector where
  prevDiow : Bool := false
  prevDior : Bool := false
  havePrev : Bool := false
deriving DecidableEq, Repr

/-- The outcome codes of a step (R240). -/
inductive OutcomeCode where
  | noEdge | dispatched | squelched | unrecognized | noArm | ignoredData | simulStrobe | restarted
deriving DecidableEq, Repr

/-- The state of the block. The first four fields are the spec's state (10_state.md), the next four the constants of
the session, then the input port, the snapshot of the cycle in process, the output port and the outcome of the last
step (INVENTORY.md, State). -/
structure State where
  /-- The shadow bank (R20). -/
  tf : TaskFile
  /-- The HOB latch (R23). -/
  hobActive : Bool
  /-- The CDB capture (R24). -/
  cdb : CdbCapture
  /-- The edge detector (R28). -/
  ed : EdgeDetector
  /-- CFG: bit 0 parse_cdb, bit 1 ignore_data, bit 2 squelch_dma, bit 3 emit_reads (R30). -/
  cfg : BitVec 4
  /-- PRES (R31). -/
  pres : Pres
  /-- The name tables (R32). -/
  tables : Tables
  /-- SIMUL_STROBE (R109). -/
  simulStrobe : SimulStrobe
  /-- The samples the input port will still deliver, oldest first (R13, log 1). -/
  input : List Sample
  /-- The snapshot of the cycle in process (R103); blank, `{}`, between steps, since no state keeps what the device
  drives (R35, log 4). -/
  snap : Sample
  /-- The records emitted so far, oldest first (R14, R220, log 3). -/
  out : List Ann
  /-- The outcome code of the last step, none before the first (R240, log 3). -/
  outcome : Option OutcomeCode
deriving DecidableEq, Repr

/-- Why a step stops. The spec has no fault (R243). -/
inductive Fault where
  /-- Raised by `step` when the input port has no sample left: the block stops at the end of its input (R112). Safe:
  the hardware does nothing there either. -/
  | endOfInput
deriving DecidableEq, Repr

/-- Why the block gives no meaning. -/
inductive Refusal where
  /-- Raised by an arm of `exec` for an instruction the model leaves out. No arm does. Safe. -/
  | notModelled (mnemonic : String)
  /-- Raised by `instantiate` alone, never by `step`: a mandatory channel is not wired, so the configuration is
  refused and the block is not instantiated (R31, R260). Safe: the spec refuses it too. -/
  | mandatoryChannelUnwired (ch : Channel)
deriving DecidableEq, Repr

/-- The state after reset (R37, R260), with the option defaults of R30 and the reference values of
93_implementation_defined.md section 2 for PRES, the tables and SIMUL_STROBE (logs 5, 9, 10, 11). -/
def State.reset : State where
  tf := {}
  hobActive := false
  cdb := {}
  ed := {}
  cfg := 0b0111#4
  pres := {}
  tables := {}
  simulStrobe := .discard
  input := []
  snap := {}
  out := []
  outcome := none

end Sys2Proof.Machine
end

