-- ==== Sys2Proof/Machine/Ops.lean ====
section
/-! DEFINITION. The named operations: reading channels and the configuration, the edge detector, the bus-cycle
recognizer, writing the shadow bank, emitting a record and ending a cycle. -/

namespace Sys2Proof.Machine

/-! ### The configuration (R30, R31) -/

/-- CFG bit 0 (R30). -/
def State.parseCdb (s : State) : Bool := s.cfg.getLsbD 0

/-- CFG bit 1 (R30). -/
def State.ignoreData (s : State) : Bool := s.cfg.getLsbD 1

/-- CFG bit 2 (R30). -/
def State.squelchDma (s : State) : Bool := s.cfg.getLsbD 2

/-- CFG bit 3 (R30). -/
def State.emitReads (s : State) : Bool := s.cfg.getLsbD 3

/-- Whether a channel is wired: the stored bit of an optional channel, 1 for a mandatory one (R31). -/
def Pres.wired (p : Pres) : Channel → Bool
  | .d8 => p.d8
  | .d9 => p.d9
  | .d10 => p.d10
  | .d11 => p.d11
  | .d12 => p.d12
  | .d13 => p.d13
  | .d14 => p.d14
  | .d15 => p.d15
  | .intrq => p.intrq
  | .reset => p.reset
  | .iordy => p.iordy
  | .dmarq => p.dmarq
  | .dmack => p.dmack
  | .dasp => p.dasp
  | .pdiag => p.pdiag
  | .iocs16 => p.iocs16
  | .d0 | .d1 | .d2 | .d3 | .d4 | .d5 | .d6 | .d7 => true
  | .diow | .dior | .cs0 | .cs1 | .da0 | .da1 | .da2 => true

/-! ### The channels of a sample (R13, R54, R70) -/

/-- The level on a channel's line, wired or not. -/
def Sample.line (x : Sample) : Channel → Bool
  | .d0 => x.d0
  | .d1 => x.d1
  | .d2 => x.d2
  | .d3 => x.d3
  | .d4 => x.d4
  | .d5 => x.d5
  | .d6 => x.d6
  | .d7 => x.d7
  | .d8 => x.d8
  | .d9 => x.d9
  | .d10 => x.d10
  | .d11 => x.d11
  | .d12 => x.d12
  | .d13 => x.d13
  | .d14 => x.d14
  | .d15 => x.d15
  | .diow => x.diow
  | .dior => x.dior
  | .cs0 => x.cs0
  | .cs1 => x.cs1
  | .da0 => x.da0
  | .da1 => x.da1
  | .da2 => x.da2
  | .intrq => x.intrq
  | .reset => x.reset
  | .iordy => x.iordy
  | .dmarq => x.dmarq
  | .dmack => x.dmack
  | .dasp => x.dasp
  | .pdiag => x.pdiag
  | .iocs16 => x.iocs16

/-- `level(ch)`: false for a channel that is not wired (R17, R31). -/
def level (p : Pres) (x : Sample) (ch : Channel) : Bool := p.wired ch && x.line ch

/-- `D = {d7, ..., d0}` (R54). -/
def dataByte (p : Pres) (x : Sample) : Byte :=
  BitVec.ofBool (level p x .d7) ++ BitVec.ofBool (level p x .d6) ++ BitVec.ofBool (level p x .d5) ++
  BitVec.ofBool (level p x .d4) ++ BitVec.ofBool (level p x .d3) ++ BitVec.ofBool (level p x .d2) ++
  BitVec.ofBool (level p x .d1) ++ BitVec.ofBool (level p x .d0)

/-- `DA = {da2, da1, da0}` (R54). -/
def regAddress (p : Pres) (x : Sample) : BitVec 3 :=
  BitVec.ofBool (level p x .da2) ++ BitVec.ofBool (level p x .da1) ++ BitVec.ofBool (level p x .da0)

/-- The cycle word of the snapshot, for a cycle of direction `wr` (R70). -/
def cycleWord (p : Pres) (x : Sample) (wr : Bool) : CycleWord :=
  dataByte p x ++ regAddress p x ++ BitVec.ofBool (level p x .cs1) ++ BitVec.ofBool (level p x .cs0) ++
    BitVec.ofBool wr

/-! ### The edge detector and the strobes (R28, R101, R109) -/

/-- `fell(diow, x)` (R101). -/
def fellDiow (s : State) (x : Sample) : Bool :=
  s.ed.havePrev && s.ed.prevDiow && !level s.pres x .diow

/-- `fell(dior, x)` (R101). -/
def fellDior (s : State) (x : Sample) : Bool :=
  s.ed.havePrev && s.ed.prevDior && !level s.pres x .dior

/-- The edge detector after a sample, in every step (R28, R100). -/
def edgeAfter (p : Pres) (x : Sample) : EdgeDetector where
  prevDiow := level p x .diow
  prevDior := level p x .dior
  havePrev := true

/-- The direction of the cycle a sample starts: `some (some wr)` for one cycle, `some none` when both strobes fell
and SIMUL_STROBE discards them, `none` for no edge (R100, R102, R109). -/
def strobe (s : State) (x : Sample) : Option (Option Bool) :=
  match fellDiow s x, fellDior s x with
  | false, false => none
  | true, false => some (some true)
  | false, true => some (some false)
  | true, true =>
    match s.simulStrobe with
    | .write => some (some true)
    | .read => some (some false)
    | .discard => some none

/-- Whether the DMA squelch drops the cycle whose snapshot is `x` (R104). -/
def squelched (s : State) (x : Sample) : Bool := s.squelchDma && level s.pres x .dmarq

/-! ### Ending a cycle and emitting a record (R17, R221, R240) -/

/-- The end of a step with an outcome code (R240). -/
def State.withOutcome (s : State) (c : OutcomeCode) : State := { s with outcome := some c }

/-- A cycle that ends with a code; what it emitted and wrote is in `s`. -/
def finish (c : OutcomeCode) (s : State) : Host.Outcome State Fault Refusal := .next (s.withOutcome c)

/-- `discard(cond)`: the cycle ends with no output and no state change (R17). -/
def discard (c : OutcomeCode) (s : State) : Host.Outcome State Fault Refusal := finish c s

/-- `ANN_END(ss)`, open but for `ANN_END(ss) >= ss` (R223, log 6). -/
def annEnd (ss : Nat) : Nat := ss + Config.annEndGap ss

/-- The record of category `c` and payload `p` of a cycle that started at sample `ss` (R221). -/
def record (ss : Nat) (c : Category) (p : Payload) : Ann :=
  { ss := ss, es := annEnd ss, cat := c, payload := p }

/-- `emit(cat, payload)`: a record with the cycle's start sample joins the output (R102, R221). -/
def State.emit (s : State) (c : Category) (p : Payload) : State :=
  { s with out := s.out ++ [record s.snap.idx c p] }

/-! ### The shadow bank (R17, R20, R22) -/

/-- `tf[name]`. -/
def TaskFile.get (t : TaskFile) : TfField → Byte
  | .features => t.features
  | .sectorCount => t.sectorCount
  | .lba0 => t.lba0
  | .lba1 => t.lba1
  | .lba2 => t.lba2
  | .device => t.device
  | .hobFeatures => t.hobFeatures
  | .hobSectorCount => t.hobSectorCount
  | .hobLba0 => t.hobLba0
  | .hobLba1 => t.hobLba1
  | .hobLba2 => t.hobLba2

/-- `tf[name] <- v`. -/
def TaskFile.set (t : TaskFile) (f : TfField) (v : Byte) : TaskFile :=
  match f with
  | .features => { t with features := v }
  | .sectorCount => { t with sectorCount := v }
  | .lba0 => { t with lba0 := v }
  | .lba1 => { t with lba1 := v }
  | .lba2 => { t with lba2 := v }
  | .device => { t with device := v }
  | .hobFeatures => { t with hobFeatures := v }
  | .hobSectorCount => { t with hobSectorCount := v }
  | .hobLba0 => { t with hobLba0 := v }
  | .hobLba1 => { t with hobLba1 := v }
  | .hobLba2 => { t with hobLba2 := v }

/-- `tf[name] <- v` on the state. -/
def State.setField (s : State) (f : TfField) (v : Byte) : State := { s with tf := s.tf.set f v }

/-- The HOB redirection: the high-order register iff `hob_active` (R22). -/
def State.hobTarget (s : State) (lo hi : TfField) : TfField := if s.hobActive then hi else lo

/-- A write to one of the five redirected registers: store and report the register written (R131 to R135, R224). -/
def paramWrite (lo hi : TfField) (d : Byte) (s : State) : Host.Outcome State Fault Refusal :=
  let f := s.hobTarget lo hi
  finish .dispatched ((s.setField f d).emit .registerWrite (.regWrite f d))

/-! ### The CDB capture (R24, R181, R190) -/

/-- Start or restart a capture (R181, R193). -/
def State.startCapture (s : State) : State :=
  { s with cdb := { active := true, collected := [], expectedLength := Config.cdbLen } }

/-- Append one byte to the capture (R190). -/
def State.collect (s : State) (d : Byte) : State :=
  { s with cdb := { s.cdb with collected := s.cdb.collected ++ [d] } }

/-- End the capture; the bytes stay in place, where no rule reads them (R27, R190, log 12). -/
def State.endCapture (s : State) : State := { s with cdb := { s.cdb with active := false } }

/-! ### Register reads (R164, R170) -/

/-- `intrq_check` (R164): the presence bit is tested as well as the level. -/
def State.intrqCheck (s : State) : State :=
  if s.pres.wired .intrq && !level s.pres s.snap .intrq then s.emit .interrupt .intrqCleared else s

/-- `read_arm(reg, D)` (R170). -/
def readArm (reg : RegId) (d : Byte) (s : State) : Host.Outcome State Fault Refusal :=
  if reg = .status ∨ reg = .altStatus then
    finish .dispatched (s.emit .status (.statusRead reg d)).intrqCheck
  else
    finish .dispatched (s.emit .registerRead (.regRead reg d)).intrqCheck

/-- A read that only `emit_reads` annotates (R161, R162, R165 to R169). -/
def optionalRead (reg : RegId) (d : Byte) (s : State) : Host.Outcome State Fault Refusal :=
  if s.emitReads then readArm reg d s else discard .noArm s

/-! ### Consuming a sample: the bus-cycle recognizer (R100) -/

/-- Take sample `x` off the input, leaving `rest`, and update the edge detector (R100). -/
def State.consume (s : State) (x : Sample) (rest : List Sample) : State :=
  { s with input := rest, ed := edgeAfter s.pres x }

/-- `snap := x`, for the one cycle that sample `x` starts (R100, R103). -/
def State.latch (s : State) (x : Sample) : State := { s with snap := x }

/-- The snapshot is blank again: nothing of it outlives its cycle (R35). -/
def State.release (s : State) : State := { s with snap := {} }

/-- The end of a cycle: what its meaning answered, with the snapshot blank again (R35). -/
def endCycle : Host.Outcome State Fault Refusal → Host.Outcome State Fault Refusal
  | .next t => .next t.release
  | .fault r => .fault r
  | .refused r => .refused r

/-- What consuming one sample comes to, before classification (R100): the end of the input, a step that ends without
a cycle, or a cycle word with the state its meaning runs in. A squelched cycle reads DMARQ of its snapshot and ends
before a meaning runs, so `snap` never holds it. -/
def fetch (s : State) : Option (State × Option CycleWord) :=
  match s.input with
  | [] => none
  | x :: rest =>
    let t := s.consume x rest
    match strobe s x with
    | none => some (t.withOutcome .noEdge, none)
    | some none => some (t.withOutcome .simulStrobe, none)
    | some (some wr) =>
      if squelched s x then some (t.withOutcome .squelched, none)
      else some (t.latch x, some (cycleWord s.pres x wr))

end Sys2Proof.Machine
end

