-- ==== Sys2Proof/Machine/Operands.lean ====
section
/-! DEFINITION. The operands that rules derive: the fields of the Device-Control byte, derived addressing, and the
names that the tables resolve. -/

namespace Sys2Proof.Machine

/-- HOB = D[7] of a Device-Control byte (R33, R73). -/
def devctlHob (d : Byte) : Bool := d.getLsbD Config.hobBit

/-- SRST = D[2] of a Device-Control byte (R33, R73). -/
def devctlSrst (d : Byte) : Bool := d.getLsbD Config.srstBit

/-- nIEN = D[1] of a Device-Control byte (R33, R73). -/
def devctlNien (d : Byte) : Bool := d.getLsbD Config.nienBit

/-- LBA mode iff bit 6 of the Device register is set (R34, R182). -/
def addrMode (t : TaskFile) : AddrMode := if t.device.getLsbD Config.lbaModeBit then .lba else .chs

/-- `ext`: one of the four high-order LBA and sector-count registers is nonzero; hob_features does not count
(R182, conflict C2). -/
def isExtended (t : TaskFile) : Bool :=
  t.hobSectorCount != 0#8 || t.hobLba0 != 0#8 || t.hobLba1 != 0#8 || t.hobLba2 != 0#8

/-- The 48-bit LBA (R55, R182). -/
def lba48 (t : TaskFile) : BitVec 48 :=
  (t.hobLba2.setWidth 48 <<< 40) ||| (t.hobLba1.setWidth 48 <<< 32) ||| (t.hobLba0.setWidth 48 <<< 24) |||
  (t.lba2.setWidth 48 <<< 16) ||| (t.lba1.setWidth 48 <<< 8) ||| t.lba0.setWidth 48

/-- The 28-bit LBA, zero-extended to 48 bits (R55, R182). -/
def lba28 (t : TaskFile) : BitVec 48 :=
  ((t.device &&& Config.devHeadMask).setWidth 48 <<< 24) |||
  (t.lba2.setWidth 48 <<< 16) ||| (t.lba1.setWidth 48 <<< 8) ||| t.lba0.setWidth 48

/-- The 16-bit sector count (R55, R182, conflict C1). -/
def sc16 (t : TaskFile) : BitVec 16 := (t.hobSectorCount.setWidth 16 <<< 8) ||| t.sectorCount.setWidth 16

/-- `deriveAddressing()` (R182). -/
def deriveAddressing (t : TaskFile) : Addressing :=
  if isExtended t then { mode := addrMode t, sc := sc16 t, lba := lba48 t, ext := true }
  else { mode := addrMode t, sc := t.sectorCount.setWidth 16, lba := lba28 t, ext := false }

/-- `STD_CMD(op)`: the entry the source fixes, else the session's table (R11, R232). -/
def stdCmd (tb : Tables) (op : Byte) : Option String :=
  if op = 0x20#8 then some "READ SECTORS" else tb.stdCmd.lookup op

/-- `resolve_cmd(op)`: custom table, then standard table, then "UNKNOWN" (R232). -/
def resolveCmd (tb : Tables) (op : Byte) : String :=
  match tb.cusCmd.lookup op with
  | some name => name
  | none =>
    match stdCmd tb op with
    | some name => name
    | none => "UNKNOWN"

/-- `resolve_cdb(b)`: custom table, then standard table, then "SCSI CDB" (R233). -/
def resolveCdb (tb : Tables) (b : Byte) : String :=
  match tb.cusCdb.lookup b with
  | some name => name
  | none =>
    match tb.stdCdb.lookup b with
    | some name => name
    | none => "SCSI CDB"

/-- The Command record of opcode `op` (R180, R181, R229). -/
def commandPayload (s : State) (op : Byte) : Payload :=
  .command op (resolveCmd s.tables op) (deriveAddressing s.tf) s.tf.device

end Sys2Proof.Machine
end

