-- ==== Sys2Proof/Machine/Commands.lean ====
section
/-! DEFINITION. Command writes (43_command_and_cdb.md, section 2). -/

namespace Sys2Proof.Machine

/-- COMMAND_W (R180): one Command record; the bank, the latch and the capture stay as they are. -/
def execCommandW (op : Byte) (s : State) : Host.Outcome State Fault Refusal :=
  finish .dispatched (s.emit .command (commandPayload s op))

/-- COMMAND_PACKET_W (R181): the capture starts, or restarts with its bytes dropped, whatever `parse_cdb` says; the
outcome code tells a restart (R242), no record does (R238). -/
def execCommandPacketW (s : State) : Host.Outcome State Fault Refusal :=
  let restart := s.cdb.active
  let t := s.startCapture
  finish (if restart then .restarted else .dispatched) (t.emit .command (commandPayload t Config.packetOpcode))

end Sys2Proof.Machine
end

