-- ==== Sys2Proof/Machine/Flags.lean ====
section
/-! DEFINITION. The two flags of the block, hob_active and cdb.active (R29): what sets and clears each. -/

namespace Sys2Proof.Machine

/-- `hob_active <- D[7]`, the only write of the latch (R23, R130). -/
def State.setHob (s : State) (d : Byte) : State := { s with hobActive := devctlHob d }

/-- Whether the capture has all its bytes, so that cdb.active falls (R29, R190, R194). -/
def captureComplete (c : CdbCapture) : Bool := c.collected.length == c.expectedLength

end Sys2Proof.Machine
end

