-- ==== Sys2Proof/Machine/DataRegister.lean ====
section
/-! DEFINITION. The Data register and the CDB capture (43_command_and_cdb.md, sections 3 and 4). -/

namespace Sys2Proof.Machine

/-- One byte collected by an active capture with CDB parsing on: its record, and on the last byte the end of the
capture and the completion record (R190, R192, R194). -/
def collectByte (d : Byte) (s : State) : Host.Outcome State Fault Refusal :=
  let i := s.cdb.collected.length
  let name := if i = 0 then some (resolveCdb s.tables d) else none
  let t := (s.collect d).emit .cdb (.cdbByte i d name)
  if captureComplete t.cdb then
    finish .dispatched (t.endCapture.emit .cdb (.cdbComplete t.cdb.collected))
  else
    finish .dispatched t

/-- DATA_W (R190). With a capture active `ignore_data` has no effect; with CDB parsing off the capture neither grows
nor ends (R195). -/
def execDataW (d : Byte) (s : State) : Host.Outcome State Fault Refusal :=
  if s.cdb.active then
    if s.parseCdb then collectByte d s
    else finish .dispatched (s.emit .cdb (.cdbMarker d))
  else if s.ignoreData then discard .ignoredData s
  else finish .dispatched (s.emit .registerWrite (.dataRaw .write d))

/-- DATA_R (R191). It never changes the capture, even while it is active. -/
def execDataR (d : Byte) (s : State) : Host.Outcome State Fault Refusal :=
  if s.emitReads then readArm .data d s
  else if s.ignoreData then discard .ignoredData s
  else finish .dispatched (s.emit .registerRead (.dataRaw .read d))

end Sys2Proof.Machine
end

