-- ==== Sys2Proof/Machine/Reads.lean ====
section
/-! DEFINITION. Register reads (42_register_reads.md). No read changes the shadow bank, the HOB latch or the capture
(R35). -/

namespace Sys2Proof.Machine

/-- STATUS_R (R160): annotated whatever the options say. -/
def execStatusR (d : Byte) (s : State) : Host.Outcome State Fault Refusal :=
  readArm .status d s

/-- ALTSTATUS_R (R163): as STATUS_R. -/
def execAltstatusR (d : Byte) (s : State) : Host.Outcome State Fault Refusal :=
  readArm .altStatus d s

/-- ERROR_R (R161). -/
def execErrorR (d : Byte) (s : State) : Host.Outcome State Fault Refusal :=
  optionalRead .error d s

/-- SECCNT_R (R162). -/
def execSeccntR (d : Byte) (s : State) : Host.Outcome State Fault Refusal :=
  optionalRead .sectorCount d s

/-- LBA0_R (R165). -/
def execLba0R (d : Byte) (s : State) : Host.Outcome State Fault Refusal :=
  optionalRead .lba0 d s

/-- LBA1_R (R166). -/
def execLba1R (d : Byte) (s : State) : Host.Outcome State Fault Refusal :=
  optionalRead .lba1 d s

/-- LBA2_R (R167). -/
def execLba2R (d : Byte) (s : State) : Host.Outcome State Fault Refusal :=
  optionalRead .lba2 d s

/-- DEVICE_R (R168). -/
def execDeviceR (d : Byte) (s : State) : Host.Outcome State Fault Refusal :=
  optionalRead .device d s

/-- DRVADDR_R (R169). -/
def execDrvaddrR (d : Byte) (s : State) : Host.Outcome State Fault Refusal :=
  optionalRead .driveAddress d s

end Sys2Proof.Machine
end

