-- ==== Sys2Proof/Machine/Unrecognized.lean ====
section
/-! DEFINITION. The cycles that are no register access: discarded silently (R77, R106). -/

namespace Sys2Proof.Machine

/-- NONE_CTL_0_3 (R106). -/
def execNoneCtl03 (_wr : Bool) (_da : BitVec 3) (_d : Byte) (s : State) : Host.Outcome State Fault Refusal :=
  discard .unrecognized s

/-- NONE_CTL_4_5 (R106). -/
def execNoneCtl45 (_wr : Bool) (_da : BitVec 3) (_d : Byte) (s : State) : Host.Outcome State Fault Refusal :=
  discard .unrecognized s

/-- NONE_BOTH_SEL (R106). -/
def execNoneBothSel (_wr : Bool) (_da : BitVec 3) (_d : Byte) (s : State) : Host.Outcome State Fault Refusal :=
  discard .unrecognized s

/-- NONE_NO_SEL (R106). -/
def execNoneNoSel (_wr : Bool) (_da : BitVec 3) (_d : Byte) (s : State) : Host.Outcome State Fault Refusal :=
  discard .unrecognized s

end Sys2Proof.Machine
end

