-- ==== Sys2Proof/Machine/Writes.lean ====
section
/-! DEFINITION. Task-file and Device-Control writes (41_taskfile_writes.md). -/

namespace Sys2Proof.Machine

/-- DEVCTL_W (R130). SRST and nIEN are reported and change nothing (R262). -/
def execDevctlW (d : Byte) (s : State) : Host.Outcome State Fault Refusal :=
  finish .dispatched
    ((s.setHob d).emit .deviceControl (.devCtl d (devctlSrst d) (devctlNien d) (devctlHob d)))

/-- FEATURES_W (R131). -/
def execFeaturesW (d : Byte) (s : State) : Host.Outcome State Fault Refusal :=
  paramWrite .features .hobFeatures d s

/-- SECCNT_W (R132). -/
def execSeccntW (d : Byte) (s : State) : Host.Outcome State Fault Refusal :=
  paramWrite .sectorCount .hobSectorCount d s

/-- LBA0_W (R133). -/
def execLba0W (d : Byte) (s : State) : Host.Outcome State Fault Refusal :=
  paramWrite .lba0 .hobLba0 d s

/-- LBA1_W (R134). -/
def execLba1W (d : Byte) (s : State) : Host.Outcome State Fault Refusal :=
  paramWrite .lba1 .hobLba1 d s

/-- LBA2_W (R135). -/
def execLba2W (d : Byte) (s : State) : Host.Outcome State Fault Refusal :=
  paramWrite .lba2 .hobLba2 d s

/-- DEVICE_W (R136): never redirected. -/
def execDeviceW (d : Byte) (s : State) : Host.Outcome State Fault Refusal :=
  finish .dispatched ((s.setField .device d).emit .registerWrite (.regWrite .device d))

/-- DRVADDR_W (R137): no arm of the dispatch takes it; the byte is unused. -/
def execDrvaddrW (_d : Byte) (s : State) : Host.Outcome State Fault Refusal :=
  discard .noArm s

end Sys2Proof.Machine
end

