-- ==== Sys2Proof/Machine/Dispatch.lean ====
section
/-! DEFINITION. The meaning of every instruction, one arm per row of the opcode table. -/

namespace Sys2Proof.Machine

def exec (i : Instr) (s : State) : Host.Outcome State Fault Refusal :=
  match i with
  | .dataW d => Sys2Proof.Machine.execDataW d s
  | .featuresW d => Sys2Proof.Machine.execFeaturesW d s
  | .seccntW d => Sys2Proof.Machine.execSeccntW d s
  | .lba0W d => Sys2Proof.Machine.execLba0W d s
  | .lba1W d => Sys2Proof.Machine.execLba1W d s
  | .lba2W d => Sys2Proof.Machine.execLba2W d s
  | .deviceW d => Sys2Proof.Machine.execDeviceW d s
  | .commandW op => Sys2Proof.Machine.execCommandW op s
  | .commandPacketW => Sys2Proof.Machine.execCommandPacketW s
  | .dataR d => Sys2Proof.Machine.execDataR d s
  | .errorR d => Sys2Proof.Machine.execErrorR d s
  | .seccntR d => Sys2Proof.Machine.execSeccntR d s
  | .lba0R d => Sys2Proof.Machine.execLba0R d s
  | .lba1R d => Sys2Proof.Machine.execLba1R d s
  | .lba2R d => Sys2Proof.Machine.execLba2R d s
  | .deviceR d => Sys2Proof.Machine.execDeviceR d s
  | .statusR d => Sys2Proof.Machine.execStatusR d s
  | .devctlW d => Sys2Proof.Machine.execDevctlW d s
  | .altstatusR d => Sys2Proof.Machine.execAltstatusR d s
  | .drvaddrW d => Sys2Proof.Machine.execDrvaddrW d s
  | .drvaddrR d => Sys2Proof.Machine.execDrvaddrR d s
  | .noneCtl03 wr da d => Sys2Proof.Machine.execNoneCtl03 wr da d s
  | .noneCtl45 wr da d => Sys2Proof.Machine.execNoneCtl45 wr da d s
  | .noneBothSel wr da d => Sys2Proof.Machine.execNoneBothSel wr da d s
  | .noneNoSel wr da d => Sys2Proof.Machine.execNoneNoSel wr da d s

end Sys2Proof.Machine
end

