-- ==== Sys2Proof/Machine/Samples.lean ====
section
/-! DEFINITION. Samples built from cycle words: the notation of R83, in which one bus cycle is two samples. -/

namespace Sys2Proof.Machine

/-- A sample whose data, address and select lines carry the word (R70), with the given strobes and side-band lines.
Every other line is low. -/
def Sample.ofWord (idx : Nat) (w : CycleWord) (diow dior dmarq intrq : Bool) : Sample :=
  { idx := idx, diow := diow, dior := dior, dmarq := dmarq, intrq := intrq,
    cs0 := cs0nOf w, cs1 := cs1nOf w,
    da0 := w.getLsbD 3, da1 := w.getLsbD 4, da2 := w.getLsbD 5,
    d0 := w.getLsbD 6, d1 := w.getLsbD 7, d2 := w.getLsbD 8, d3 := w.getLsbD 9,
    d4 := w.getLsbD 10, d5 := w.getLsbD 11, d6 := w.getLsbD 12, d7 := w.getLsbD 13 }

/-- The edge sample of a cycle: the strobe its direction names is low, the other high (R70, R101). -/
def edgeSample (idx : Nat) (w : CycleWord) (dmarq intrq : Bool) : Sample :=
  Sample.ofWord idx w (!wrOf w) (wrOf w) dmarq intrq

/-- The sample before a cycle's edge: both strobes high (95_test_vectors.md, section 0). -/
def highSample (idx : Nat) (w : CycleWord) (dmarq intrq : Bool) : Sample :=
  Sample.ofWord idx w true true dmarq intrq

/-- One line of the notation of R83: `@<edgeIdx> RAW <word> {dmarq} {intrq}`. -/
structure BusCycle where
  edgeIdx : Nat
  word    : CycleWord
  dmarq   : Bool := false
  intrq   : Bool := false
deriving DecidableEq, Repr

/-- The two samples a line of R83 stands for (95_test_vectors.md, section 0). -/
def BusCycle.samples (c : BusCycle) : List Sample :=
  [highSample (c.edgeIdx - 1) c.word c.dmarq c.intrq, edgeSample c.edgeIdx c.word c.dmarq c.intrq]

/-- The samples of a sequence of lines. -/
def samplesOf (cs : List BusCycle) : List Sample := cs.flatMap BusCycle.samples

/-- A sample index after every record's (R13): one above the last record's start sample, 1 where there is none. -/
def State.nextIndex (s : State) : Nat :=
  match s.out.getLast? with
  | some a => a.ss + 1
  | none => 1

/-- `s` with the cycle of word `w` as the next sample's: the edge sample stands first in the input and the edge
detector holds a high level of its strobe (log 2). -/
def State.placeCycle (s : State) (w : CycleWord) : State :=
  { s with
    input := edgeSample s.nextIndex w false false :: s.input
    ed := { prevDiow := wrOf w || s.ed.prevDiow, prevDior := !wrOf w || s.ed.prevDior, havePrev := true } }

end Sys2Proof.Machine
end

