-- ==== Sys2Proof/Machine/Step.lean ====
section
/-! DEFINITION. One step of the block: one sample consumed, at most one cycle run (R15, R100). -/

namespace Sys2Proof.Machine

/-- One step (R100). The snapshot is blank again when a cycle ends (R35). The step stops only when the input port has no sample left (R112). -/
def step (s : State) : Host.Outcome State Fault Refusal :=
  match fetch s with
  | none => .fault .endOfInput
  | some (t, none) => .next t
  | some (t, some w) => endCycle (exec (decodeWord w) t)

/-- `s` with the table word `w` of `nbits` bits as its next cycle (log 2). -/
def State.withFetchWord (s : State) (nbits w : Nat) : State :=
  s.placeCycle (BitVec.ofNat 14 (w % 2 ^ nbits))

end Sys2Proof.Machine
end

