-- ==== Sys2Proof/Machine/Classifier.lean ====
section
/-! DEFINITION. The register classifier and the dispatch as the spec writes them (R105, R107), beside the
decoder and `exec`, which take the same cycles apart by class. -/

namespace Sys2Proof.Machine

/-- `classify(cs0Active, cs1Active, a, isWrite)` (R105); `none` is the spec's `None`. -/
def classify (c0 c1 : Bool) (a : BitVec 3) (wr : Bool) : Option RegId :=
  if c0 && !c1 then
    match a.toNat with
    | 0 => some .data
    | 1 => some (if wr then .features else .error)
    | 2 => some .sectorCount
    | 3 => some .lba0
    | 4 => some .lba1
    | 5 => some .lba2
    | 6 => some .device
    | _ => some (if wr then .command else .status)
  else if c1 && !c0 then
    match a.toNat with
    | 6 => some (if wr then .deviceControl else .altStatus)
    | 7 => some .driveAddress
    | _ => none
  else none

/-- Arm 3 of the dispatch: the rule for a write to one of the six task-file registers (R107). -/
def taskFileWrite (reg : RegId) (d : Byte) (s : State) : Option (Host.Outcome State Fault Refusal) :=
  match reg with
  | .features => some (execFeaturesW d s)
  | .sectorCount => some (execSeccntW d s)
  | .lba0 => some (execLba0W d s)
  | .lba1 => some (execLba1W d s)
  | .lba2 => some (execLba2W d s)
  | .device => some (execDeviceW d s)
  | .data | .error | .command | .status | .deviceControl | .altStatus | .driveAddress => none

/-- Arms 4 to 7 of the dispatch, in their order (R107). Arm 6 is unreachable behind arm 2 and gives what arm 2 gives
(R171). -/
def dispatchLaterArms (reg : RegId) (wr : Bool) (d : Byte) (s : State) : Host.Outcome State Fault Refusal :=
  if reg = .data then
    if wr then execDataW d s else execDataR d s
  else if reg = .command ∧ wr = true then
    if d = Config.packetOpcode then execCommandPacketW s else execCommandW d s
  else if wr = false ∧ s.emitReads = true then readArm reg d s
  else discard .noArm s

/-- `dispatch(S, reg, WR, D, ss)`: the arms in the order the spec lists them, the first that matches runs (R107). -/
def dispatch (reg : RegId) (wr : Bool) (d : Byte) (s : State) : Host.Outcome State Fault Refusal :=
  if reg = .deviceControl ∧ wr = true then execDevctlW d s
  else if wr = false ∧ (reg = .status ∨ reg = .altStatus ∨ s.emitReads = true) then readArm reg d s
  else
    match (if wr then taskFileWrite reg d s else none) with
    | some r => r
    | none => dispatchLaterArms reg wr d s

/-- The cycle of a word by the spec's own path: classify, discard if `None`, else dispatch (R100, R105 to R107). -/
def classifyAndDispatch (w : CycleWord) (s : State) : Host.Outcome State Fault Refusal :=
  match classify (!cs0nOf w) (!cs1nOf w) (daOf w) (wrOf w) with
  | none => discard .unrecognized s
  | some reg => dispatch reg (wrOf w) (dOf w) s

end Sys2Proof.Machine
end

