-- ==== Sys2Proof/Machine/Run.lean ====
section
/-! DEFINITION. Sequences: samples delivered one by one, and cycles run one after another. -/

namespace Sys2Proof.Machine

/-- The sample port delivers `xs` one at a time, each consumed by one step (R13, R60). -/
def deliver (s : State) : List Sample → Host.Outcome State Fault Refusal
  | [] => .next s
  | x :: xs =>
    match step { s with input := [x] } with
    | .next t => deliver t xs
    | .fault r => .fault r
    | .refused r => .refused r

/-- The meanings of a list of cycles, one after another (R60). -/
def execAll (s : State) : List Instr → Host.Outcome State Fault Refusal
  | [] => .next s
  | i :: is =>
    match exec i s with
    | .next t => execAll t is
    | .fault r => .fault r
    | .refused r => .refused r

end Sys2Proof.Machine
end

