-- ==== Sys2Proof/Machine/Session.lean ====
section
/-! DEFINITION. The reset sequence: (re)initialization at the start of a session, the only reset (R260). -/

namespace Sys2Proof.Machine

/-- What the environment gives before the first sample (R263): the wired channels, the options it sets, the tables,
and the open parameter SIMUL_STROBE. -/
structure SessionRequest where
  wired       : List Channel
  parseCdb    : Option Bool := none
  ignoreData  : Option Bool := none
  squelchDma  : Option Bool := none
  emitReads   : Option Bool := none
  tables      : Tables := {}
  simulStrobe : SimulStrobe := .discard
deriving DecidableEq, Repr

/-- The fifteen mandatory channels (R13). -/
def mandatoryChannels : List Channel :=
  [.d0, .d1, .d2, .d3, .d4, .d5, .d6, .d7, .diow, .dior, .cs0, .cs1, .da0, .da1, .da2]

/-- Step 2 of R260: the presence table. -/
def presOf (wired : List Channel) : Pres where
  d8 := decide (Channel.d8 ∈ wired)
  d9 := decide (Channel.d9 ∈ wired)
  d10 := decide (Channel.d10 ∈ wired)
  d11 := decide (Channel.d11 ∈ wired)
  d12 := decide (Channel.d12 ∈ wired)
  d13 := decide (Channel.d13 ∈ wired)
  d14 := decide (Channel.d14 ∈ wired)
  d15 := decide (Channel.d15 ∈ wired)
  intrq := decide (Channel.intrq ∈ wired)
  reset := decide (Channel.reset ∈ wired)
  iordy := decide (Channel.iordy ∈ wired)
  dmarq := decide (Channel.dmarq ∈ wired)
  dmack := decide (Channel.dmack ∈ wired)
  dasp := decide (Channel.dasp ∈ wired)
  pdiag := decide (Channel.pdiag ∈ wired)
  iocs16 := decide (Channel.iocs16 ∈ wired)

/-- Step 3 of R260: CFG, each option not given at its default (R30). -/
def cfgOf (r : SessionRequest) : BitVec 4 :=
  BitVec.ofBool (r.emitReads.getD false) ++ BitVec.ofBool (r.squelchDma.getD true) ++
  BitVec.ofBool (r.ignoreData.getD true) ++ BitVec.ofBool (r.parseCdb.getD true)

/-- The reset sequence of R260: a mandatory channel that is not wired refuses the configuration (R31); else the
session's constants are fixed and every state element takes its reset value. -/
def instantiate (r : SessionRequest) : Host.Outcome State Fault Refusal :=
  match mandatoryChannels.find? (fun c => !decide (c ∈ r.wired)) with
  | some ch => .refused (.mandatoryChannelUnwired ch)
  | none =>
    .next { State.reset with
      cfg := cfgOf r, pres := presOf r.wired, tables := r.tables, simulStrobe := r.simulStrobe }

end Sys2Proof.Machine
end

