-- ==== Sys2Proof/Machine/Records.lean ====
section
/-! DEFINITION. Reading a record: the category of each payload, the groups of categories, the outcome numbers and
the text the sink is given (R222, R224 to R240). -/

namespace Sys2Proof.Machine

/-- The number of an outcome code (R240). -/
def OutcomeCode.number : OutcomeCode → Nat
  | .noEdge => 0
  | .dispatched => 1
  | .squelched => 2
  | .unrecognized => 3
  | .noArm => 4
  | .ignoredData => 5
  | .simulStrobe => 6
  | .restarted => 7

/-- The group a category belongs to (R222, conflict C4). -/
def categoryGroup : Category → CategoryGroup
  | .command | .cdb => .commands
  | .registerWrite | .registerRead | .status | .deviceControl => .regs
  | .interrupt | .warning => .interruptSignals

/-- The category each payload is emitted with (R224 to R231, R234, R235). No payload has `warning` (R238). -/
def payloadCategory : Payload → Category
  | .regWrite _ _ => .registerWrite
  | .devCtl _ _ _ _ => .deviceControl
  | .statusRead _ _ => .status
  | .regRead _ _ => .registerRead
  | .intrqCleared => .interrupt
  | .command _ _ _ _ => .command
  | .cdbByte _ _ _ => .cdb
  | .cdbComplete _ => .cdb
  | .cdbMarker _ => .cdb
  | .dataRaw .write _ => .registerWrite
  | .dataRaw .read _ => .registerRead

/-- One upper-case hexadecimal digit. -/
def hexDigit (v : Nat) : Char := if v < 10 then Char.ofNat (48 + v) else Char.ofNat (55 + v)

/-- The `n` low hexadecimal digits of `v`, most significant first (`hex2`, `hexN` of R236). -/
def hexDigits : Nat → Nat → List Char
  | 0, _ => []
  | n + 1, v => hexDigits n (v / 16) ++ [hexDigit (v % 16)]

/-- `hexN(v)`: zero-padded upper-case hexadecimal (R236). -/
def hexText (n v : Nat) : String := String.ofList (hexDigits n v)

/-- The LBA with its tag: 8 digits when not extended, 12 when extended (R236). -/
def lbaText (a : Addressing) : String :=
  if a.ext then "LBA48=0x" ++ hexText 12 a.lba.toNat else "LBA28=0x" ++ hexText 8 a.lba.toNat

/-- The mode suffix (R236). -/
def modeText : AddrMode → String
  | .lba => "LBA"
  | .chs => "CHS"

/-- The text of a Command record (R236). -/
def commandText (op : Byte) (mnemonic : String) (a : Addressing) (device : Byte) : String :=
  "CMD 0x" ++ hexText 2 op.toNat ++ " " ++ mnemonic ++ " SC=" ++ toString a.sc.toNat ++ " " ++ lbaText a ++
  " DEV=0x" ++ hexText 2 device.toNat ++ "(" ++ modeText a.mode ++ ")"

/-- The text of a record: normative for the Command record (R236), the open RENDER for every other (R237, log 7). -/
def payloadText : Payload → String
  | .command op m a dev => commandText op m a dev
  | p => Config.render p

/-- The name of a shadow register as a record spells it (R224). -/
def fieldText : TfField → String
  | .features => "features"
  | .sectorCount => "sector_count"
  | .lba0 => "lba0"
  | .lba1 => "lba1"
  | .lba2 => "lba2"
  | .device => "device"
  | .hobFeatures => "hob_features"
  | .hobSectorCount => "hob_sector_count"
  | .hobLba0 => "hob_lba0"
  | .hobLba1 => "hob_lba1"
  | .hobLba2 => "hob_lba2"

/-- The name of a register as a read record spells it (R52, R227). -/
def regText : RegId → String
  | .data => "Data"
  | .features => "Features"
  | .error => "Error"
  | .sectorCount => "SectorCount"
  | .lba0 => "LBA0"
  | .lba1 => "LBA1"
  | .lba2 => "LBA2"
  | .device => "Device"
  | .command => "Command"
  | .status => "Status"
  | .deviceControl => "DeviceControl"
  | .altStatus => "AltStatus"
  | .driveAddress => "DriveAddress"

/-- A bit as a digit. -/
def bitText (b : Bool) : String := if b then "1" else "0"

/-- Bytes as two-digit hexadecimal, separated by spaces (R237). -/
def bytesText : List Byte → String
  | [] => ""
  | [b] => hexText 2 b.toNat
  | b :: bs => hexText 2 b.toNat ++ " " ++ bytesText bs

/-- The reference renderings of R237, one choice of RENDER that the spec offers for executable models; no meaning
and no invariant uses them (log 7). -/
def referenceText : Payload → String
  | .regWrite f v => "WR " ++ fieldText f ++ "=0x" ++ hexText 2 v.toNat
  | .devCtl v srst nien hob =>
    "DEVCTL 0x" ++ hexText 2 v.toNat ++ " SRST=" ++ bitText srst ++ " nIEN=" ++ bitText nien ++ " HOB=" ++ bitText hob
  | .statusRead reg v => (if reg = .status then "STATUS" else "ALTSTATUS") ++ "=0x" ++ hexText 2 v.toNat
  | .regRead reg v => "RD " ++ regText reg ++ "=0x" ++ hexText 2 v.toNat
  | .intrqCleared => "INTRQ cleared"
  | .command op m a dev => commandText op m a dev
  | .cdbByte i v name =>
    "CDB[" ++ toString i ++ "]=0x" ++ hexText 2 v.toNat ++
      (match name with
       | some m => " " ++ m
       | none => "")
  | .cdbComplete bs => "CDB complete: " ++ bytesText bs
  | .cdbMarker v => "CDB byte 0x" ++ hexText 2 v.toNat
  | .dataRaw dir v => (match dir with
      | .write => "DATA WR 0x"
      | .read => "DATA RD 0x") ++ hexText 2 v.toNat

end Sys2Proof.Machine
end

