-- ==== Sys2Proof/Safety.lean ====
section
/-! DEFINITION. What a good state of the block is: the invariant every step keeps. -/

namespace Sys2Proof.Machine

/-- The capture is well-formed: its expected length is 12 (R24), an active capture holds 0 to 11 bytes (R25), and
none while CDB parsing is off (R195). -/
def State.captureOk (s : State) : Bool :=
  s.cdb.expectedLength == 12 &&
  (!s.cdb.active || (decide (s.cdb.collected.length < 12) && (s.parseCdb || s.cdb.collected.isEmpty)))

/-- The content of a payload stays within what R224 to R235 and R183 give it. -/
def payloadOk : Payload → Bool
  | .regWrite _ _ => true
  | .devCtl v srst nien hob => v.getLsbD 2 == srst && v.getLsbD 1 == nien && v.getLsbD 7 == hob
  | .statusRead reg _ => reg == .status || reg == .altStatus
  | .regRead reg _ =>
    [RegId.data, .error, .sectorCount, .lba0, .lba1, .lba2, .device, .driveAddress].contains reg
  | .intrqCleared => true
  | .command _ _ a dev =>
    (a.mode == if dev.getLsbD 6 then .lba else .chs) &&
    (a.ext || (decide (a.sc.toNat < 2 ^ 8) && decide (a.lba.toNat < 2 ^ 28)))
  | .cdbByte i _ name => decide (i < 12) && (name.isSome == (i == 0))
  | .cdbComplete bs => bs.length == 12
  | .cdbMarker _ => true
  | .dataRaw _ _ => true

/-- A record is well-formed: its category is its payload's, its end sample does not lie before its start sample
(R223), and its payload is in range. -/
def Ann.ok (a : Ann) : Prop :=
  a.cat = payloadCategory a.payload ∧ a.ss ≤ a.es ∧ payloadOk a.payload = true

/-- The ports are in order: the samples to come have strictly rising indices (R13, R113), the records have start
samples that never fall (R60, R220), and every record is older than every sample to come. -/
def State.portsOrdered (s : State) : Prop :=
  s.input.Pairwise (fun x y => x.idx < y.idx) ∧
  s.out.Pairwise (fun a b => a.ss ≤ b.ss) ∧
  ∀ a ∈ s.out, ∀ x ∈ s.input, a.ss < x.idx

/-- The cycle the next step runs, if it runs one: a strobe fell, SIMUL_STROBE did not discard it, and the squelch did
not drop it (R100). -/
def State.nextCycle (s : State) : Option Instr :=
  match s.input with
  | [] => none
  | x :: _ =>
    match strobe s x with
    | some (some wr) => if squelched s x then none else some (decodeWord (cycleWord s.pres x wr))
    | _ => none

/-- Which register of the shadow bank a cycle writes, and with what, by the value of `hob_active` (the table of R21). -/
def bankWrite : Instr → Bool → Option (TfField × Byte)
  | .featuresW d, hob => some (if hob then .hobFeatures else .features, d)
  | .seccntW d, hob => some (if hob then .hobSectorCount else .sectorCount, d)
  | .lba0W d, hob => some (if hob then .hobLba0 else .lba0, d)
  | .lba1W d, hob => some (if hob then .hobLba1 else .lba1, d)
  | .lba2W d, hob => some (if hob then .hobLba2 else .lba2, d)
  | .deviceW d, _ => some (.device, d)
  | .dataW _, _ | .commandW _, _ | .commandPacketW, _ | .devctlW _, _ | .drvaddrW _, _ => none
  | .dataR _, _ | .errorR _, _ | .seccntR _, _ | .lba0R _, _ | .lba1R _, _ | .lba2R _, _ | .deviceR _, _ => none
  | .statusR _, _ | .altstatusR _, _ | .drvaddrR _, _ => none
  | .noneCtl03 _ _ _, _ | .noneCtl45 _ _ _, _ | .noneBothSel _ _ _, _ | .noneNoSel _ _ _, _ => none

/-- Whether a cycle is a register read (R35). -/
def isRead : Instr → Bool
  | .dataR _ | .errorR _ | .seccntR _ | .lba0R _ | .lba1R _ | .lba2R _ | .deviceR _ => true
  | .statusR _ | .altstatusR _ | .drvaddrR _ => true
  | .featuresW _ | .seccntW _ | .lba0W _ | .lba1W _ | .lba2W _ | .deviceW _ => false
  | .dataW _ | .commandW _ | .commandPacketW | .devctlW _ | .drvaddrW _ => false
  | .noneCtl03 _ _ _ | .noneCtl45 _ _ _ | .noneBothSel _ _ _ | .noneNoSel _ _ _ => false

/-- Two samples agree on every channel the block reads: all but d8 to d15, `reset`, `iordy`, `dmack`, `dasp`, `pdiag`
and `iocs16` (R108). -/
def agreeOnReadChannels (x y : Sample) : Prop :=
  x.idx = y.idx ∧
  (∀ ch ∈ [Channel.d0, .d1, .d2, .d3, .d4, .d5, .d6, .d7, .diow, .dior, .cs0, .cs1, .da0, .da1, .da2, .intrq, .dmarq],
    x.line ch = y.line ch)

/-- HOB latch after the cycles `cs`, from the value `hob`: bit 7 of the last Device-Control write that the squelch did
not drop (R138). `squelch` says whether cycles with DMARQ high are dropped. -/
def hobAfter (squelch : Bool) (hob : Bool) (cs : List BusCycle) : Bool :=
  cs.foldl (fun h c =>
    if squelch && c.dmarq then h
    else match decodeWord c.word with
      | .devctlW d => d.getLsbD 7
      | _ => h) hob

/-- The invariant: a well-formed capture, well-formed records, ordered ports, and no snapshot kept between steps
(R35). -/
structure State.Inv (s : State) : Prop where
  capture : s.captureOk = true
  records : ∀ a ∈ s.out, Ann.ok a
  ordered : s.portsOrdered
  idle    : s.snap = {}

end Sys2Proof.Machine
end

