-- ==== Sys2Proof/Certificates/Slice0/Obligations.lean ====
section
/-! DEFINITION. The statements for the provers, from the numbered rules of spec/. Where a statement names an outcome code,
a record's payload or category, or a bit of the cycle word, it rests on decisions the spec marks as its own (D17, D13,
D9, D10, D26; log 18); the fields `input`, `snap`, `out` and `outcome` are the model's (logs 1, 3, 4). -/

open Sys2Proof Sys2Proof.Machine

/-! ### What each cycle does -/

/-- R130: a Device-Control write copies D[7] to the HOB latch, reports SRST, nIEN and HOB, and changes nothing else;
squelched, it leaves the latch. The outcome code is the spec's decision D17. -/
def Obligations.DevctlWriteCopiesBitSevenToHobLatch : Prop :=
  (∀ (d : Byte) (s : State), exec (.devctlW d) s = .next { s with
    hobActive := d.getLsbD 7
    out := s.out ++ [record s.snap.idx .deviceControl
      (.devCtl d (d.getLsbD 2) (d.getLsbD 1) (d.getLsbD 7))]
    outcome := some .dispatched }) ∧
  (∀ (s : State) (x : Sample) (rest : List Sample) (wr : Bool), s.input = x :: rest →
    strobe s x = some (some wr) → squelched s x = true →
    ∃ t, step s = .next t ∧ t.hobActive = s.hobActive)

/-- R131 to R135: each of the five redirected writes stores D in the high-order register while the HOB latch is set,
in the primary one while it is clear, reports the register written, and changes nothing else. The outcome code is decision
D17. -/
def Obligations.ParameterWritesFollowHobLatch : Prop :=
  (∀ (d : Byte) (s : State), exec (.featuresW d) s = .next (if s.hobActive then
      { s with tf := { s.tf with hobFeatures := d }, outcome := some .dispatched,
               out := s.out ++ [record s.snap.idx .registerWrite (.regWrite .hobFeatures d)] }
    else
      { s with tf := { s.tf with features := d }, outcome := some .dispatched,
               out := s.out ++ [record s.snap.idx .registerWrite (.regWrite .features d)] })) ∧
  (∀ (d : Byte) (s : State), exec (.seccntW d) s = .next (if s.hobActive then
      { s with tf := { s.tf with hobSectorCount := d }, outcome := some .dispatched,
               out := s.out ++ [record s.snap.idx .registerWrite (.regWrite .hobSectorCount d)] }
    else
      { s with tf := { s.tf with sectorCount := d }, outcome := some .dispatched,
               out := s.out ++ [record s.snap.idx .registerWrite (.regWrite .sectorCount d)] })) ∧
  (∀ (d : Byte) (s : State), exec (.lba0W d) s = .next (if s.hobActive then
      { s with tf := { s.tf with hobLba0 := d }, outcome := some .dispatched,
               out := s.out ++ [record s.snap.idx .registerWrite (.regWrite .hobLba0 d)] }
    else
      { s with tf := { s.tf with lba0 := d }, outcome := some .dispatched,
               out := s.out ++ [record s.snap.idx .registerWrite (.regWrite .lba0 d)] })) ∧
  (∀ (d : Byte) (s : State), exec (.lba1W d) s = .next (if s.hobActive then
      { s with tf := { s.tf with hobLba1 := d }, outcome := some .dispatched,
               out := s.out ++ [record s.snap.idx .registerWrite (.regWrite .hobLba1 d)] }
    else
      { s with tf := { s.tf with lba1 := d }, outcome := some .dispatched,
               out := s.out ++ [record s.snap.idx .registerWrite (.regWrite .lba1 d)] })) ∧
  (∀ (d : Byte) (s : State), exec (.lba2W d) s = .next (if s.hobActive then
      { s with tf := { s.tf with hobLba2 := d }, outcome := some .dispatched,
               out := s.out ++ [record s.snap.idx .registerWrite (.regWrite .hobLba2 d)] }
    else
      { s with tf := { s.tf with lba2 := d }, outcome := some .dispatched,
               out := s.out ++ [record s.snap.idx .registerWrite (.regWrite .lba2 d)] }))

/-- The corner cases of R131 to R135: a Features write never changes the derived addressing; a nonzero byte written
under HOB to one of the other four makes the addressing extended, and an LBA byte then supplies its LBA bits; a
sector-count byte, 0 too, is reported as written. -/
def Obligations.ParameterWritesShapeLaterAddressing : Prop :=
  (∀ (d : Byte) (s t : State), exec (.featuresW d) s = .next t →
    deriveAddressing t.tf = deriveAddressing s.tf) ∧
  (∀ (d : Byte) (s t : State), s.hobActive = true → d ≠ 0#8 → exec (.seccntW d) s = .next t →
    (deriveAddressing t.tf).ext = true ∧ (deriveAddressing t.tf).sc.extractLsb' 8 8 = d) ∧
  (∀ (d : Byte) (s t : State), s.hobActive = true → d ≠ 0#8 → exec (.lba0W d) s = .next t →
    (deriveAddressing t.tf).ext = true ∧ (deriveAddressing t.tf).lba.extractLsb' 24 8 = d) ∧
  (∀ (d : Byte) (s t : State), s.hobActive = true → d ≠ 0#8 → exec (.lba1W d) s = .next t →
    (deriveAddressing t.tf).ext = true ∧ (deriveAddressing t.tf).lba.extractLsb' 32 8 = d) ∧
  (∀ (d : Byte) (s t : State), s.hobActive = true → d ≠ 0#8 → exec (.lba2W d) s = .next t →
    (deriveAddressing t.tf).ext = true ∧ (deriveAddressing t.tf).lba.extractLsb' 40 8 = d) ∧
  (∀ (d : Byte) (s t : State), s.hobActive = false → exec (.seccntW d) s = .next t →
    (deriveAddressing t.tf).sc.extractLsb' 0 8 = d)

/-- R136: a Device write stores D in `device` whatever the HOB latch says, reports it, and changes nothing else; only
bits 6 and 3:0 of the register are interpreted, and no value of it filters a later cycle.
The Command write of the last clause is R180's for opcodes other than 0xA0; that it does the same at 0xA0, where the
instruction is not well-formed and no word decodes to it, is the model's choice (log 17). -/
def Obligations.DeviceWriteIsNeverRedirected : Prop :=
  (∀ (d : Byte) (s : State), exec (.deviceW d) s = .next { s with
    tf := { s.tf with device := d }
    out := s.out ++ [record s.snap.idx .registerWrite (.regWrite .device d)]
    outcome := some .dispatched }) ∧
  (∀ (t : TaskFile) (d e : Byte), d &&& 0x4F#8 = e &&& 0x4F#8 →
    deriveAddressing { t with device := d } = deriveAddressing { t with device := e }) ∧
  (∀ (d : Byte) (s t : State) (xs : List Sample), exec (.deviceW d) s = .next t →
    State.nextCycle { t with input := xs } = State.nextCycle { s with input := xs }) ∧
  (∀ (d op : Byte) (s t u : State), exec (.deviceW d) s = .next t → exec (.commandW op) t = .next u →
    u.out = t.out ++ [record t.snap.idx .command
      (.command op (resolveCmd t.tables op) (deriveAddressing t.tf) d)])

/-- R106 and R137: a Drive Address write and the four classes that are no register access end with their outcome
code and change nothing else.
That the control-block classes do so at addresses outside their rows of R74 too, where the instruction is not
well-formed, is the model's choice (log 17). -/
def Obligations.SilentClassesOnlySetTheOutcome : Prop :=
  (∀ (d : Byte) (s : State), exec (.drvaddrW d) s = .next { s with outcome := some .noArm }) ∧
  (∀ (wr : Bool) (da : BitVec 3) (d : Byte) (s : State),
    exec (.noneCtl03 wr da d) s = .next { s with outcome := some .unrecognized } ∧
    exec (.noneCtl45 wr da d) s = .next { s with outcome := some .unrecognized } ∧
    exec (.noneBothSel wr da d) s = .next { s with outcome := some .unrecognized } ∧
    exec (.noneNoSel wr da d) s = .next { s with outcome := some .unrecognized })

/-- R160, R163, R164: a read of Status or AltStatus is reported whatever the options say, followed by the INTRQ
record when INTRQ is wired and low, and changes nothing else. The categories are the spec's decision D9. -/
def Obligations.StatusReadsAreAlwaysReported : Prop :=
  ∀ (d : Byte) (s : State),
    exec (.statusR d) s = .next { s with
      out := s.out ++ record s.snap.idx .status (.statusRead .status d) ::
        (if s.pres.intrq = true ∧ s.snap.intrq = false then [record s.snap.idx .interrupt .intrqCleared] else [])
      outcome := some .dispatched } ∧
    exec (.altstatusR d) s = .next { s with
      out := s.out ++ record s.snap.idx .status (.statusRead .altStatus d) ::
        (if s.pres.intrq = true ∧ s.snap.intrq = false then [record s.snap.idx .interrupt .intrqCleared] else [])
      outcome := some .dispatched }

/-- R161, R162, R165 to R169: with `emit_reads` these reads are reported, followed by the INTRQ record when INTRQ is
wired and low; without it they end with NoArm; either way nothing else changes. -/
def Obligations.OtherReadsFollowEmitReads : Prop :=
  ∀ (d : Byte) (s : State),
    ∀ p ∈ [(Instr.errorR d, RegId.error), (.seccntR d, .sectorCount), (.lba0R d, .lba0), (.lba1R d, .lba1),
           (.lba2R d, .lba2), (.deviceR d, .device), (.drvaddrR d, .driveAddress)],
      exec p.1 s = .next (if s.emitReads then
        { s with
          out := s.out ++ record s.snap.idx .registerRead (.regRead p.2 d) ::
            (if s.pres.intrq = true ∧ s.snap.intrq = false then [record s.snap.idx .interrupt .intrqCleared] else [])
          outcome := some .dispatched }
      else { s with outcome := some .noArm })

/-- R191 (with the spec's decision D8): a Data read is a reported read with `emit_reads`, dropped with `ignore_data`,
a raw Data record otherwise; it never changes the capture. -/
def Obligations.DataReadFollowsOptions : Prop :=
  ∀ (d : Byte) (s : State),
    exec (.dataR d) s = .next (if s.emitReads then
      { s with
        out := s.out ++ record s.snap.idx .registerRead (.regRead .data d) ::
          (if s.pres.intrq = true ∧ s.snap.intrq = false then [record s.snap.idx .interrupt .intrqCleared] else [])
        outcome := some .dispatched }
    else if s.ignoreData then { s with outcome := some .ignoredData }
    else { s with
      out := s.out ++ [record s.snap.idx .registerRead (.dataRaw .read d)]
      outcome := some .dispatched })

/-- R190, with the spec's decisions D10, D11, D13 and D17, and the collected bytes kept after the capture ends (the
model's choice, log 12): a Data write in a capture is collected, or marked when CDB parsing is off; the byte that makes the capture
complete ends it and is followed by the completion record; outside a capture it is dropped or reported raw. -/
def Obligations.DataWriteCollectsMarksOrReports : Prop :=
  ∀ (d : Byte) (s : State),
    exec (.dataW d) s = .next (
      if s.cdb.active then
        if s.parseCdb then
          if s.cdb.collected.length + 1 = s.cdb.expectedLength then
            { s with
              cdb := { s.cdb with active := false, collected := s.cdb.collected ++ [d] }
              out := s.out ++ [record s.snap.idx .cdb (.cdbByte s.cdb.collected.length d
                  (if s.cdb.collected.length = 0 then some (resolveCdb s.tables d) else none)),
                record s.snap.idx .cdb (.cdbComplete (s.cdb.collected ++ [d]))]
              outcome := some .dispatched }
          else
            { s with
              cdb := { s.cdb with collected := s.cdb.collected ++ [d] }
              out := s.out ++ [record s.snap.idx .cdb (.cdbByte s.cdb.collected.length d
                  (if s.cdb.collected.length = 0 then some (resolveCdb s.tables d) else none))]
              outcome := some .dispatched }
        else
          { s with
            out := s.out ++ [record s.snap.idx .cdb (.cdbMarker d)]
            outcome := some .dispatched }
      else if s.ignoreData then { s with outcome := some .ignoredData }
      else
        { s with
          out := s.out ++ [record s.snap.idx .registerWrite (.dataRaw .write d)]
          outcome := some .dispatched })

/-- R180: a Command write emits one Command record of the bank as it stands and changes nothing else.
R180 is for opcodes other than 0xA0. At 0xA0 the instruction is not well-formed and no word decodes to it: a Command
write of 0xA0 is COMMAND_PACKET_W, which starts a capture (R75, R181). That `exec` reports the command there and starts
no capture is the model's choice (log 17). -/
def Obligations.CommandWriteReportsTheBank : Prop :=
  ∀ (op : Byte) (s : State), exec (.commandW op) s = .next { s with
    out := s.out ++ [record s.snap.idx .command
      (.command op (resolveCmd s.tables op) (deriveAddressing s.tf) s.tf.device)]
    outcome := some .dispatched }

/-- R26, R181, R193, R242: a PACKET command starts a capture from any capture state, with nothing collected and
length 12, whatever the options; a restart differs from a start in the outcome code only. -/
def Obligations.PacketCommandStartsOrRestartsCapture : Prop :=
  ∀ (s : State), exec .commandPacketW s = .next { s with
    cdb := { active := true, collected := [], expectedLength := 12 }
    out := s.out ++ [record s.snap.idx .command
      (.command 0xA0#8 (resolveCmd s.tables 0xA0#8) (deriveAddressing s.tf) s.tf.device)]
    outcome := some (if s.cdb.active then .restarted else .dispatched) }

/-! ### Derived addressing and names -/

/-- R182, as arithmetic: the mode is device bit 6, `ext` is one of four high-order bytes being nonzero, and the sector
count and the LBA are the positional sums of their bytes. -/
def Obligations.DeriveAddressingIsPositional : Prop :=
  ∀ (t : TaskFile),
    ((deriveAddressing t).mode = if t.device.getLsbD 6 then .lba else .chs) ∧
    ((deriveAddressing t).ext = true ↔
      t.hobSectorCount ≠ 0#8 ∨ t.hobLba0 ≠ 0#8 ∨ t.hobLba1 ≠ 0#8 ∨ t.hobLba2 ≠ 0#8) ∧
    ((deriveAddressing t).ext = true →
      (deriveAddressing t).sc.toNat = 256 * t.hobSectorCount.toNat + t.sectorCount.toNat ∧
      (deriveAddressing t).lba.toNat =
        2 ^ 40 * t.hobLba2.toNat + 2 ^ 32 * t.hobLba1.toNat + 2 ^ 24 * t.hobLba0.toNat +
        2 ^ 16 * t.lba2.toNat + 2 ^ 8 * t.lba1.toNat + t.lba0.toNat) ∧
    ((deriveAddressing t).ext = false →
      (deriveAddressing t).sc.toNat = t.sectorCount.toNat ∧
      (deriveAddressing t).lba.toNat =
        2 ^ 24 * (t.device.toNat % 16) + 2 ^ 16 * t.lba2.toNat + 2 ^ 8 * t.lba1.toNat + t.lba0.toNat)

/-- The arithmetic laws the spec derives as R183: the bounds of LBA and sector count, and that the device nibble plays
no part in an extended LBA. -/
def Obligations.DerivedAddressingBounds : Prop :=
  (∀ (t : TaskFile), (deriveAddressing t).ext = false →
    (deriveAddressing t).sc.toNat < 2 ^ 8 ∧ (deriveAddressing t).lba.toNat < 2 ^ 28) ∧
  (∀ (t : TaskFile) (d : Byte), (deriveAddressing t).ext = true →
    (deriveAddressing { t with device := d }).lba = (deriveAddressing t).lba ∧
    (deriveAddressing { t with device := d }).ext = true)

/-- R232: the custom table, then the standard table, then "UNKNOWN"; the standard table names 0x20. -/
def Obligations.CommandNameResolution : Prop :=
  ∀ (tb : Tables) (op : Byte),
    (∀ n, tb.cusCmd.lookup op = some n → resolveCmd tb op = n) ∧
    (∀ n, tb.cusCmd.lookup op = none → stdCmd tb op = some n → resolveCmd tb op = n) ∧
    (tb.cusCmd.lookup op = none → stdCmd tb op = none → resolveCmd tb op = "UNKNOWN") ∧
    stdCmd tb 0x20#8 = some "READ SECTORS" ∧
    (op ≠ 0x20#8 → stdCmd tb op = tb.stdCmd.lookup op)

/-- R233: the custom CDB table, then the standard one, then "SCSI CDB"; no entry of either is fixed. -/
def Obligations.CdbNameResolution : Prop :=
  ∀ (tb : Tables) (b : Byte),
    (∀ n, tb.cusCdb.lookup b = some n → resolveCdb tb b = n) ∧
    (∀ n, tb.cusCdb.lookup b = none → tb.stdCdb.lookup b = some n → resolveCdb tb b = n) ∧
    (tb.cusCdb.lookup b = none → tb.stdCdb.lookup b = none → resolveCdb tb b = "SCSI CDB")

/-- The source's worked Command text, and one of a 48-bit command by the spec's decision D19. -/
def Obligations.CommandTextOfWorkedExamples : Prop :=
  commandText 0x20#8 (resolveCmd {} 0x20#8)
      (deriveAddressing { sectorCount := 0x01#8, lba0 := 0x10#8, device := 0xE0#8 }) 0xE0#8 =
    "CMD 0x20 READ SECTORS SC=1 LBA28=0x00000010 DEV=0xE0(LBA)" ∧
  commandText 0x24#8 (resolveCmd {} 0x24#8)
      (deriveAddressing { sectorCount := 0x08#8, hobLba0 := 0x04#8, device := 0x40#8 }) 0x40#8 =
    "CMD 0x24 UNKNOWN SC=8 LBA48=0x000004000000 DEV=0x40(LBA)"

/-! ### Encoding -/

/-- Decoding an encoded well-formed instruction gives it back, with every operand. -/
def Obligations.DecodeOfEncode : Prop :=
  ∀ (i : Instr), i.wf = true → decodeWord (encode i) = i

/-- Every word is the encoding of the well-formed instruction it decodes to. -/
def Obligations.EncodeOfDecode : Prop :=
  ∀ (w : CycleWord), (decodeWord w).wf = true ∧ encode (decodeWord w) = w

/-- The byte layout is read back, and bytes with a bit above bit 13 are refused (the layout is the model's, log 16). -/
def Obligations.DecodeOfEncodedBytes : Prop :=
  (∀ (i : Instr) (rest : List Byte), i.wf = true → decodeBytes (encodeBytes i ++ rest) = .ok (i, rest)) ∧
  (∀ (b0 b1 : Byte) (rest : List Byte), 64 ≤ b1.toNat →
    decodeBytes (b0 :: b1 :: rest) = .error .beyondFourteenBits)

/-- R74 and R75: a word matches a row of the opcode map exactly when the row is that of the class it decodes to, but
that a PACKET word also matches the row of COMMAND_W, over which it has priority. -/
def Obligations.OpcodeMapMatchesTheDecoder : Prop :=
  ∀ (w : CycleWord) (r : OpcodeRow), r ∈ opcodeTable →
    ((w &&& r.mask = r.pattern) ↔
      (r.mnemonic = (decodeWord w).mnemonic ∨ (r.mnemonic = "COMMAND_W" ∧ w = 0x283D#14)))

/-- Words the spec writes out, decoded. -/
def Obligations.WorkedWordsDecode : Prop :=
  decodeWord 0x083D#14 = .commandW 0x20#8 ∧ decodeWord 0x283D#14 = .commandPacketW ∧
  decodeWord 0x2033#14 = .devctlW 0x80#8 ∧ decodeWord 0x143C#14 = .statusR 0x50#8 ∧
  decodeWord 0x2AC5#14 = .dataW 0xAB#8 ∧ decodeWord 0x2031#14 = .noneBothSel true 6#3 0x80#8 ∧
  decodeWord 0x046A#14 = .noneCtl45 false 5#3 0x11#8 ∧ decodeWord 0x2013#14 = .noneCtl03 true 2#3 0x80#8

/-- R70, R72: the fields of the cycle word are the levels of the snapshot's lines, `d0` and `da0` lowest. -/
def Obligations.CycleWordReadsTheLines : Prop :=
  ∀ (p : Pres) (x : Sample) (wr : Bool),
    wrOf (cycleWord p x wr) = wr ∧ cs0nOf (cycleWord p x wr) = x.cs0 ∧ cs1nOf (cycleWord p x wr) = x.cs1 ∧
    (daOf (cycleWord p x wr)).toNat = x.da0.toNat + 2 * x.da1.toNat + 4 * x.da2.toNat ∧
    (dOf (cycleWord p x wr)).toNat =
      x.d0.toNat + 2 * x.d1.toNat + 4 * x.d2.toNat + 8 * x.d3.toNat + 16 * x.d4.toNat + 32 * x.d5.toNat +
      64 * x.d6.toNat + 128 * x.d7.toNat

/-! ### The step -/

/-- A step whose sample starts a cycle that the squelch lets pass runs the meaning of the decoded cycle, on the state
whose input has moved on, whose edge detector holds the sample's strobes, and whose snapshot is the sample; the
meaning answers a next state, and the step answers that state with the snapshot blank again (R35, log 4). -/
def Obligations.StepRunsTheDecodedCycle : Prop :=
  ∀ (s : State) (x : Sample) (rest : List Sample) (wr : Bool),
    s.input = x :: rest → strobe s x = some (some wr) → squelched s x = false →
    ∃ u, exec (decodeWord (cycleWord s.pres x wr)) { s with
        input := rest
        ed := { prevDiow := x.diow, prevDior := x.dior, havePrev := true }
        snap := x } = .next u ∧
      step s = .next { u with snap := {} }

/-- The same from the instruction: a well-formed instruction put on the bus lines, its strobe falling, is the one the
step runs, whatever INTRQ and the parameters are; the snapshot is blank again after it. -/
def Obligations.StepRunsTheInstructionOnTheBus : Prop :=
  ∀ (i : Instr) (s : State) (idx : Nat) (dmarq intrq : Bool) (rest : List Sample),
    i.wf = true → s.ed = { prevDiow := true, prevDior := true, havePrev := true } →
    s.input = edgeSample idx (encode i) dmarq intrq :: rest →
    ¬ (s.squelchDma = true ∧ s.pres.dmarq = true ∧ dmarq = true) →
    ∃ u, exec i { s with
        input := rest
        ed := { prevDiow := !wrOf (encode i), prevDior := wrOf (encode i), havePrev := true }
        snap := edgeSample idx (encode i) dmarq intrq } = .next u ∧
      step s = .next { u with snap := {} }

/-- A table word placed as the next cycle is the one the next step decodes and runs (log 2). -/
def Obligations.PlacedTableWordRunsNext : Prop :=
  ∀ (s : State) (w : Nat), w < 2 ^ 14 →
    ∃ i, decodeTableWord 16 w = some i ∧ i = decodeWord (BitVec.ofNat 14 w) ∧
      ∃ u v, exec i u = .next v ∧ step (s.withFetchWord 16 w) = .next { v with snap := {} } ∧
        u.tf = s.tf ∧ u.hobActive = s.hobActive ∧ u.cdb = s.cdb ∧ u.cfg = s.cfg ∧ u.pres = s.pres ∧
        u.tables = s.tables ∧ u.input = s.input ∧ u.out = s.out

/-- R110: a sample in which no strobe falls updates the edge detector and does nothing else, whatever its other
channels are. -/
def Obligations.QuietSampleOnlyUpdatesTheEdgeDetector : Prop :=
  ∀ (s : State) (x : Sample) (rest : List Sample),
    s.input = x :: rest → fellDiow s x = false → fellDior s x = false →
    step s = .next { s with
      input := rest
      ed := { prevDiow := x.diow, prevDior := x.dior, havePrev := true }
      outcome := some .noEdge }

/-- R101 with the spec's decision D2: a strobe falls only where it was high in the sample before; the first sample
after reset is never an edge. -/
def Obligations.FallingEdgeNeedsAHighSampleBefore : Prop :=
  (∀ (s : State) (x : Sample),
    (fellDiow s x = true ↔ s.ed.havePrev = true ∧ s.ed.prevDiow = true ∧ x.diow = false) ∧
    (fellDior s x = true ↔ s.ed.havePrev = true ∧ s.ed.prevDior = true ∧ x.dior = false)) ∧
  (∀ (x : Sample) (rest : List Sample),
    step { State.reset with input := x :: rest } = .next { State.reset with
      input := rest
      ed := { prevDiow := x.diow, prevDior := x.dior, havePrev := true }
      outcome := some .noEdge })

/-- R100: whatever the step does, the next state's edge detector holds the strobe levels of the sample consumed and
its input has moved on by that sample; so a strobe held low yields no second cycle. -/
def Obligations.EveryStepTracksTheStrobes : Prop :=
  (∀ (s t : State) (x : Sample) (rest : List Sample), s.input = x :: rest → step s = .next t →
    t.ed = { prevDiow := x.diow, prevDior := x.dior, havePrev := true } ∧ t.input = rest) ∧
  (∀ (s t : State) (x y : Sample) (rest : List Sample), s.input = x :: rest → step s = .next t →
    (x.diow = false → fellDiow t y = false) ∧ (x.dior = false → fellDior t y = false))

/-- R109 (decision D3): two strobes falling in one sample give one write cycle, one read cycle, or none, as
SIMUL_STROBE says. -/
def Obligations.SimultaneousStrobesFollowTheParameter : Prop :=
  ∀ (s : State) (x : Sample) (rest : List Sample),
    s.input = x :: rest → fellDiow s x = true → fellDior s x = true →
    (s.simulStrobe = .write → strobe s x = some (some true)) ∧
    (s.simulStrobe = .read → strobe s x = some (some false)) ∧
    (s.simulStrobe = .discard → step s = .next { s with
      input := rest
      ed := { prevDiow := x.diow, prevDior := x.dior, havePrev := true }
      outcome := some .simulStrobe })

/-- R104: with `squelch_dma` a cycle whose snapshot has DMARQ high is dropped with no record and no state change;
with DMARQ not wired or low, or without the option, the cycle runs (and its snapshot is blank after it, R35). -/
def Obligations.DmaSquelchDropsTheCycle : Prop :=
  ∀ (s : State) (x : Sample) (rest : List Sample) (wr : Bool),
    s.input = x :: rest → strobe s x = some (some wr) →
    (s.squelchDma = true → s.pres.dmarq = true → x.dmarq = true →
      step s = .next { s with
        input := rest
        ed := { prevDiow := x.diow, prevDior := x.dior, havePrev := true }
        outcome := some .squelched }) ∧
    (s.squelchDma = false ∨ s.pres.dmarq = false ∨ x.dmarq = false →
      ∃ u, exec (decodeWord (cycleWord s.pres x wr)) { s with
          input := rest
          ed := { prevDiow := x.diow, prevDior := x.dior, havePrev := true }
          snap := x } = .next u ∧
        step s = .next { u with snap := {} })

/-- R244: the strobe resolution, then the squelch, then the classification, then the dispatch: the first that ends the
cycle gives the outcome. -/
def Obligations.FirstConditionGivesTheOutcome : Prop :=
  ∀ (s : State) (x : Sample) (rest : List Sample), s.input = x :: rest →
    (fellDiow s x = true ∨ fellDior s x = true) →
    ∃ t, step s = .next t ∧
      if fellDiow s x = true ∧ fellDior s x = true ∧ s.simulStrobe = .discard then t.outcome = some .simulStrobe
      else if squelched s x = true then t.outcome = some .squelched
      else if classify (!x.cs0) (!x.cs1) (regAddress s.pres x) true = none then t.outcome = some .unrecognized
      else t.outcome ∈ [some .dispatched, some .noArm, some .ignoredData, some .restarted]

/-- R243: no exception, no fault, no stuck state: with a sample to consume, a step always answers a next state. That
`exec` answers one on instructions that are not well-formed too is the model's choice (log 17), and so is the named stop
at the end of the input that the second clause leaves out (log 1). -/
def Obligations.EveryStepIsTotal : Prop :=
  (∀ (i : Instr) (s : State), ∃ t, exec i s = .next t) ∧
  (∀ (s : State), s.input ≠ [] → ∃ t, step s = .next t)

/-- The model's choice for the end of the input (log 1): the step stops by name exactly when no sample is left. -/
def Obligations.StepStopsOnlyAtTheEndOfInput : Prop :=
  (∀ (s : State), s.input = [] → step s = .fault .endOfInput) ∧
  (∀ (s : State) (f : Fault), step s = .fault f → s.input = []) ∧
  (∀ (s : State) (r : Refusal), step s ≠ .refused r)

/-! ### What no cycle changes -/

/-- R21: the shadow bank changes only as the table of R21 says, by every cycle and by no other step.
That instructions that are not well-formed keep to it too is the model's choice (log 17). -/
def Obligations.BankWrittenOnlyByItsTable : Prop :=
  (∀ (i : Instr) (s t : State), exec i s = .next t →
    t.tf = match bankWrite i s.hobActive with
      | none => s.tf
      | some (f, d) => s.tf.set f d) ∧
  (∀ (s t : State), step s = .next t → s.nextCycle = none → t.tf = s.tf)

/-- R23, R29: only a Device-Control write changes the HOB latch; every other step, squelched and discarded cycles
included, leaves it. -/
def Obligations.HobLatchWrittenOnlyByDevctl : Prop :=
  ∀ (s t : State), step s = .next t →
    t.hobActive = match s.nextCycle with
      | some (.devctlW d) => d.getLsbD 7
      | _ => s.hobActive

/-- R35: no state keeps what the device drives or the Command byte. A read leaves all state but the output records and
the outcome; so does a Command write, but that a PACKET command starts a capture with no byte in it; and a step that
runs one of them, or no cycle at all, keeps of its sample the two strobe levels only, its snapshot blank. After a cycle
of any class the snapshot is blank. The rule is R35; the capture a PACKET command starts is R181's, the strobe levels
kept are the edge detector of R100 (decision D2), and the blank snapshot and the fields that observe the output are the
model's choices (logs 4 and 3).
So is what the second clause says of COMMAND_W at 0xA0, which is not well-formed (log 17). -/
def Obligations.ReadsAndCommandsStoreNothing : Prop :=
  (∀ (i : Instr) (s t : State), isRead i = true → exec i s = .next t →
    t = { s with out := t.out, outcome := t.outcome }) ∧
  (∀ (op : Byte) (s t : State), exec (.commandW op) s = .next t →
    t = { s with out := t.out, outcome := t.outcome }) ∧
  (∀ (s t : State), exec .commandPacketW s = .next t →
    t = { s with
      cdb := { active := true, collected := [], expectedLength := 12 }
      out := t.out
      outcome := t.outcome }) ∧
  (∀ (s t : State) (x : Sample) (rest : List Sample), s.input = x :: rest → step s = .next t →
    (s.nextCycle = none → t = { s with
      input := rest
      ed := { prevDiow := x.diow, prevDior := x.dior, havePrev := true }
      outcome := t.outcome }) ∧
    (∀ i, s.nextCycle = some i → t.snap = {}) ∧
    (∀ i, s.nextCycle = some i → (isRead i = true ∨ ∃ op, i = .commandW op) → t = { s with
      input := rest
      ed := { prevDiow := x.diow, prevDior := x.dior, havePrev := true }
      snap := {}
      out := t.out
      outcome := t.outcome }) ∧
    (s.nextCycle = some .commandPacketW → t = { s with
      cdb := { active := true, collected := [], expectedLength := 12 }
      input := rest
      ed := { prevDiow := x.diow, prevDior := x.dior, havePrev := true }
      snap := {}
      out := t.out
      outcome := t.outcome }))

/-- R192: the transitions of the CDB FSM and the CDB records of each, for every cycle from every well-formed capture.
Its last row takes in instructions that are not well-formed, COMMAND_W at 0xA0 among them: there it is the model's
choice (log 17). -/
def Obligations.CdbFsmTransitions : Prop :=
  ∀ (i : Instr) (s t : State), s.captureOk = true → exec i s = .next t →
    match i with
    | .commandPacketW => t.cdb.active = true ∧ t.cdb.collected = [] ∧
        t.out.map Ann.payload = s.out.map Ann.payload ++ [commandPayload s 0xA0#8]
    | .dataW d =>
      if s.cdb.active = true ∧ s.parseCdb = true then
        if s.cdb.collected.length = 11 then
          t.cdb.active = false ∧
          t.out.map Ann.payload = s.out.map Ann.payload ++
            [.cdbByte 11 d none, .cdbComplete (s.cdb.collected ++ [d])]
        else
          t.cdb.active = true ∧ t.cdb.collected = s.cdb.collected ++ [d] ∧
          ∃ m, t.out.map Ann.payload = s.out.map Ann.payload ++ [.cdbByte s.cdb.collected.length d m]
      else if s.cdb.active = true then
        t.cdb = s.cdb ∧ t.out.map Ann.payload = s.out.map Ann.payload ++ [.cdbMarker d]
      else
        t.cdb = s.cdb ∧ t.out.map Ann.payload = s.out.map Ann.payload ++
          (if s.ignoreData then [] else [.dataRaw .write d])
    | _ => t.cdb = s.cdb

/-- R194: a capture ends in the very write that collects its twelfth byte, which reports the byte and then the
completion; no state with twelve bytes in an active capture follows. -/
def Obligations.CaptureEndsWithTheTwelfthByte : Prop :=
  ∀ (d : Byte) (s t : State), s.captureOk = true → exec (.dataW d) s = .next t →
    (t.cdb.active = true → t.cdb.collected.length < 12) ∧
    (s.cdb.active = true → s.parseCdb = true → s.cdb.collected.length = 11 →
      t.cdb.active = false ∧
      t.out = s.out ++ [record s.snap.idx .cdb (.cdbByte 11 d none),
        record s.snap.idx .cdb (.cdbComplete (s.cdb.collected ++ [d]))])

/-- R32 and the constancy of CFG, PRES and SIMUL_STROBE: no step writes a constant of the session. -/
def Obligations.SessionConstantsNeverChange : Prop :=
  ∀ (s t : State), step s = .next t →
    t.cfg = s.cfg ∧ t.pres = s.pres ∧ t.tables = s.tables ∧ t.simulStrobe = s.simulStrobe

/-- R240 (decision D17): a step with any outcome but Dispatched and Restarted changes no register, no latch, no
capture, and emits nothing; every step sets a code. -/
def Obligations.SilentOutcomesChangeNothing : Prop :=
  ∀ (s t : State), step s = .next t →
    t.outcome.isSome = true ∧
    (t.outcome ≠ some .dispatched → t.outcome ≠ some .restarted →
      t.tf = s.tf ∧ t.hobActive = s.hobActive ∧ t.cdb = s.cdb ∧ t.out = s.out)

/-- R220, R221: a step appends at most two records, all with the edge sample's index and its end sample. -/
def Obligations.StepAppendsAtMostTwoRecords : Prop :=
  ∀ (s t : State) (x : Sample) (rest : List Sample), s.input = x :: rest → step s = .next t →
    ∃ rs, t.out = s.out ++ rs ∧ rs.length ≤ 2 ∧ ∀ a ∈ rs, a.ss = x.idx ∧ a.es = annEnd x.idx ∧ x.idx ≤ a.es

/-- R238: no step emits a record of category `warning`. -/
def Obligations.NoStepEmitsAWarning : Prop :=
  ∀ (s t : State), step s = .next t → (∀ a ∈ s.out, a.cat ≠ .warning) → ∀ a ∈ t.out, a.cat ≠ .warning

/-- R22, last paragraph (which the spec marks as derived): a cycle that is no Command write does not read the bank.
From any other bank `u` it answers the same state, but that the bank is `u` with the one register of R21's table set to
the byte of the cycle.
That this holds of NONE instructions that are not well-formed too is the model's choice (log 17). -/
def Obligations.OnlyCommandWritesReadTheBank : Prop :=
  ∀ (i : Instr) (s t : State) (u : TaskFile),
    (∀ op, i ≠ .commandW op) → i ≠ .commandPacketW → exec i s = .next t →
    exec i { s with tf := u } = .next { t with
      tf := match bankWrite i s.hobActive with
        | none => u
        | some (f, d) => u.set f d }

/-- R108, R262: two samples that agree on the channels the block reads lead to the same state,
whatever d8 to d15, `reset`, `iordy`, `dmack`, `dasp`, `pdiag` and `iocs16` carry. -/
def Obligations.UnreadChannelsHaveNoEffect : Prop :=
  ∀ (s : State) (x y : Sample) (rest : List Sample), agreeOnReadChannels x y →
    step { s with input := x :: rest } = step { s with input := y :: rest }

/-! ### Reset -/

/-- R37: the state elements after (re)initialization, for every admitted configuration. -/
def Obligations.ResetValues : Prop :=
  ∀ (r : SessionRequest) (s : State), instantiate r = .next s →
    (∀ f, s.tf.get f = 0x00#8) ∧ s.hobActive = false ∧
    s.cdb.active = false ∧ s.cdb.collected = [] ∧ s.cdb.expectedLength = 12 ∧
    s.ed.havePrev = false ∧ s.ed.prevDiow = false ∧ s.ed.prevDior = false

/-- R30, R31, R260 (decisions D15, D16, D22): the reset sequence refuses a configuration that lacks a mandatory
channel, and admits every other one with the options given or their defaults and the presence bits of the wiring. -/
def Obligations.ResetSequenceAdmitsAndLatches : Prop :=
  ∀ (r : SessionRequest),
    ((∃ ch ∈ mandatoryChannels, ch ∉ r.wired) → ∃ ch ∈ mandatoryChannels, ch ∉ r.wired ∧
      instantiate r = .refused (.mandatoryChannelUnwired ch)) ∧
    ((∀ ch ∈ mandatoryChannels, ch ∈ r.wired) → ∃ s, instantiate r = .next s ∧
      s.parseCdb = r.parseCdb.getD true ∧ s.ignoreData = r.ignoreData.getD true ∧
      s.squelchDma = r.squelchDma.getD true ∧ s.emitReads = r.emitReads.getD false ∧
      (∀ ch, s.pres.wired ch = true ↔ ch ∈ r.wired) ∧
      s.tables = r.tables ∧ s.simulStrobe = r.simulStrobe)

/-- The invariant holds at reset, whose session constants are the model's choice (logs 5, 9, 10, 11): it is the
session the reset sequence gives when every mandatory channel and nothing else is wired and no option is given. -/
def Obligations.ResetStateIsGood : Prop :=
  State.reset.Inv ∧ instantiate { wired := mandatoryChannels } = .next State.reset

/-! ### Headlines -/

/-- Every step keeps the invariant: a well-formed capture, well-formed records, ordered ports, no snapshot kept. -/
def Obligations.StepKeepsTheInvariant : Prop :=
  ∀ (s t : State), s.Inv → step s = .next t → t.Inv

/-- The decoder and the twenty-five meanings do what the spec's own classifier and first-match dispatch do, on every
word and state. -/
def Obligations.MeaningsAgreeWithClassifyAndDispatch : Prop :=
  ∀ (w : CycleWord) (s : State), exec (decodeWord w) s = classifyAndDispatch w s

/-- The HOB redirection law (R138): after any sequence of cycles on the bus, the latch is bit 7 of the last
Device-Control write that was not squelched, and the next write that is not squelched lands accordingly. -/
def Obligations.HobRedirectionOverSequences : Prop :=
  ∀ (cs : List BusCycle) (s : State), ∃ t, deliver s (samplesOf cs) = .next t ∧
    t.hobActive = hobAfter (s.squelchDma && s.pres.dmarq) s.hobActive cs ∧
    ∀ (c : BusCycle), (s.squelchDma && s.pres.dmarq && c.dmarq) = false →
      ∃ u, deliver s (samplesOf (cs ++ [c])) = .next u ∧
        u.tf = match bankWrite (decodeWord c.word) (hobAfter (s.squelchDma && s.pres.dmarq) s.hobActive cs) with
          | none => t.tf
          | some (f, d) => t.tf.set f d

/-- The CDB capture law (R198): with CDB parsing on and no squelch, a PACKET command and twelve Data writes give
twelve byte records, indices 0 to 11, the first alone named, and one completion, and leave the FSM Idle; a thirteenth
Data write follows `ignore_data`. -/
def Obligations.CdbCaptureOverSequences : Prop :=
  ∀ (s : State) (c0 : BusCycle) (cs : List BusCycle),
    s.parseCdb = true → c0.word = 0x283D#14 → cs.length = 12 →
    (∀ c ∈ cs, decodeWord c.word = .dataW (dOf c.word)) →
    c0.dmarq = false → (∀ c ∈ cs, c.dmarq = false) →
    ∃ t, deliver s (samplesOf (c0 :: cs)) = .next t ∧ t.cdb.active = false ∧
      t.out.map Ann.payload = s.out.map Ann.payload ++ [commandPayload s 0xA0#8] ++
        cs.mapIdx (fun n c => Payload.cdbByte n (dOf c.word)
          (if n = 0 then some (resolveCdb s.tables (dOf c.word)) else none)) ++
        [.cdbComplete (cs.map (fun c => dOf c.word))] ∧
      ∀ (c : BusCycle), decodeWord c.word = .dataW (dOf c.word) → c.dmarq = false →
        ∃ u, deliver s (samplesOf (c0 :: cs ++ [c])) = .next u ∧ u.cdb.active = false ∧
          u.out.map Ann.payload = t.out.map Ann.payload ++
            (if s.ignoreData then [] else [.dataRaw .write (dOf c.word)])

/-- The hazard of R266 (from R195): with CDB parsing off, an active capture stays active and grows by nothing through
any sequence of cycles, but that a PACKET command empties it.
That instructions that are not well-formed leave the capture is the model's choice (log 17). -/
def Obligations.CaptureWithoutParsingNeverEnds : Prop :=
  ∀ (is : List Instr) (s : State), s.parseCdb = false → s.cdb.active = true →
    ∃ t, execAll s is = .next t ∧ t.cdb.active = true ∧
      (t.cdb.collected = if Instr.commandPacketW ∈ is then [] else s.cdb.collected)

/-- The hazard of R265: while the HOB latch is clear and no Device-Control write comes, no sequence of cycles makes
an extended bank plain or a plain one extended.
That instructions that are not well-formed leave the bank and the latch is the model's choice (log 17). -/
def Obligations.StaleHobBytesStayExtended : Prop :=
  ∀ (is : List Instr) (s : State), s.hobActive = false → (∀ d, Instr.devctlW d ∉ is) →
    ∃ t, execAll s is = .next t ∧ t.hobActive = false ∧
      (deriveAddressing t.tf).ext = (deriveAddressing s.tf).ext

/-- Any samples delivered one by one are all consumed: the run never stops before its input does. -/
def Obligations.AnySampleStreamIsConsumed : Prop :=
  ∀ (xs : List Sample) (s : State), ∃ t, deliver s xs = .next t ∧
    (xs ≠ [] → t.input = []) ∧ t.cfg = s.cfg ∧ t.pres = s.pres ∧
    ∃ rs, t.out = s.out ++ rs ∧ rs.length ≤ 2 * xs.length
end

