-- ==== Sys2Proof/Laws/State.lean ====
section
/-! SUPPORT. What each update of the state does to each field, by rfl. -/

namespace Sys2Proof.Machine

variable (s : State)

/-! ### State.withOutcome -/

@[simp] theorem State.withOutcome_tf (c : OutcomeCode) :
    (s.withOutcome c).tf = s.tf := rfl

@[simp] theorem State.withOutcome_hobActive (c : OutcomeCode) :
    (s.withOutcome c).hobActive = s.hobActive := rfl

@[simp] theorem State.withOutcome_cdb (c : OutcomeCode) :
    (s.withOutcome c).cdb = s.cdb := rfl

@[simp] theorem State.withOutcome_ed (c : OutcomeCode) :
    (s.withOutcome c).ed = s.ed := rfl

@[simp] theorem State.withOutcome_cfg (c : OutcomeCode) :
    (s.withOutcome c).cfg = s.cfg := rfl

@[simp] theorem State.withOutcome_pres (c : OutcomeCode) :
    (s.withOutcome c).pres = s.pres := rfl

@[simp] theorem State.withOutcome_tables (c : OutcomeCode) :
    (s.withOutcome c).tables = s.tables := rfl

@[simp] theorem State.withOutcome_simulStrobe (c : OutcomeCode) :
    (s.withOutcome c).simulStrobe = s.simulStrobe := rfl

@[simp] theorem State.withOutcome_input (c : OutcomeCode) :
    (s.withOutcome c).input = s.input := rfl

@[simp] theorem State.withOutcome_snap (c : OutcomeCode) :
    (s.withOutcome c).snap = s.snap := rfl

@[simp] theorem State.withOutcome_out (c : OutcomeCode) :
    (s.withOutcome c).out = s.out := rfl

@[simp] theorem State.withOutcome_outcome (c : OutcomeCode) :
    (s.withOutcome c).outcome = some c := rfl

/-! ### State.emit -/

@[simp] theorem State.emit_tf (c : Category) (p : Payload) :
    (s.emit c p).tf = s.tf := rfl

@[simp] theorem State.emit_hobActive (c : Category) (p : Payload) :
    (s.emit c p).hobActive = s.hobActive := rfl

@[simp] theorem State.emit_cdb (c : Category) (p : Payload) :
    (s.emit c p).cdb = s.cdb := rfl

@[simp] theorem State.emit_ed (c : Category) (p : Payload) :
    (s.emit c p).ed = s.ed := rfl

@[simp] theorem State.emit_cfg (c : Category) (p : Payload) :
    (s.emit c p).cfg = s.cfg := rfl

@[simp] theorem State.emit_pres (c : Category) (p : Payload) :
    (s.emit c p).pres = s.pres := rfl

@[simp] theorem State.emit_tables (c : Category) (p : Payload) :
    (s.emit c p).tables = s.tables := rfl

@[simp] theorem State.emit_simulStrobe (c : Category) (p : Payload) :
    (s.emit c p).simulStrobe = s.simulStrobe := rfl

@[simp] theorem State.emit_input (c : Category) (p : Payload) :
    (s.emit c p).input = s.input := rfl

@[simp] theorem State.emit_snap (c : Category) (p : Payload) :
    (s.emit c p).snap = s.snap := rfl

@[simp] theorem State.emit_out (c : Category) (p : Payload) :
    (s.emit c p).out = s.out ++ [record s.snap.idx c p] := rfl

@[simp] theorem State.emit_outcome (c : Category) (p : Payload) :
    (s.emit c p).outcome = s.outcome := rfl

/-! ### State.setField -/

@[simp] theorem State.setField_tf (f : TfField) (v : Byte) :
    (s.setField f v).tf = s.tf.set f v := rfl

@[simp] theorem State.setField_hobActive (f : TfField) (v : Byte) :
    (s.setField f v).hobActive = s.hobActive := rfl

@[simp] theorem State.setField_cdb (f : TfField) (v : Byte) :
    (s.setField f v).cdb = s.cdb := rfl

@[simp] theorem State.setField_ed (f : TfField) (v : Byte) :
    (s.setField f v).ed = s.ed := rfl

@[simp] theorem State.setField_cfg (f : TfField) (v : Byte) :
    (s.setField f v).cfg = s.cfg := rfl

@[simp] theorem State.setField_pres (f : TfField) (v : Byte) :
    (s.setField f v).pres = s.pres := rfl

@[simp] theorem State.setField_tables (f : TfField) (v : Byte) :
    (s.setField f v).tables = s.tables := rfl

@[simp] theorem State.setField_simulStrobe (f : TfField) (v : Byte) :
    (s.setField f v).simulStrobe = s.simulStrobe := rfl

@[simp] theorem State.setField_input (f : TfField) (v : Byte) :
    (s.setField f v).input = s.input := rfl

@[simp] theorem State.setField_snap (f : TfField) (v : Byte) :
    (s.setField f v).snap = s.snap := rfl

@[simp] theorem State.setField_out (f : TfField) (v : Byte) :
    (s.setField f v).out = s.out := rfl

@[simp] theorem State.setField_outcome (f : TfField) (v : Byte) :
    (s.setField f v).outcome = s.outcome := rfl

/-! ### State.setHob -/

@[simp] theorem State.setHob_tf (d : Byte) :
    (s.setHob d).tf = s.tf := rfl

@[simp] theorem State.setHob_hobActive (d : Byte) :
    (s.setHob d).hobActive = devctlHob d := rfl

@[simp] theorem State.setHob_cdb (d : Byte) :
    (s.setHob d).cdb = s.cdb := rfl

@[simp] theorem State.setHob_ed (d : Byte) :
    (s.setHob d).ed = s.ed := rfl

@[simp] theorem State.setHob_cfg (d : Byte) :
    (s.setHob d).cfg = s.cfg := rfl

@[simp] theorem State.setHob_pres (d : Byte) :
    (s.setHob d).pres = s.pres := rfl

@[simp] theorem State.setHob_tables (d : Byte) :
    (s.setHob d).tables = s.tables := rfl

@[simp] theorem State.setHob_simulStrobe (d : Byte) :
    (s.setHob d).simulStrobe = s.simulStrobe := rfl

@[simp] theorem State.setHob_input (d : Byte) :
    (s.setHob d).input = s.input := rfl

@[simp] theorem State.setHob_snap (d : Byte) :
    (s.setHob d).snap = s.snap := rfl

@[simp] theorem State.setHob_out (d : Byte) :
    (s.setHob d).out = s.out := rfl

@[simp] theorem State.setHob_outcome (d : Byte) :
    (s.setHob d).outcome = s.outcome := rfl

/-! ### State.startCapture -/

@[simp] theorem State.startCapture_tf :
    s.startCapture.tf = s.tf := rfl

@[simp] theorem State.startCapture_hobActive :
    s.startCapture.hobActive = s.hobActive := rfl

@[simp] theorem State.startCapture_cdb :
    s.startCapture.cdb = { active := true, collected := [], expectedLength := Config.cdbLen } := rfl

@[simp] theorem State.startCapture_ed :
    s.startCapture.ed = s.ed := rfl

@[simp] theorem State.startCapture_cfg :
    s.startCapture.cfg = s.cfg := rfl

@[simp] theorem State.startCapture_pres :
    s.startCapture.pres = s.pres := rfl

@[simp] theorem State.startCapture_tables :
    s.startCapture.tables = s.tables := rfl

@[simp] theorem State.startCapture_simulStrobe :
    s.startCapture.simulStrobe = s.simulStrobe := rfl

@[simp] theorem State.startCapture_input :
    s.startCapture.input = s.input := rfl

@[simp] theorem State.startCapture_snap :
    s.startCapture.snap = s.snap := rfl

@[simp] theorem State.startCapture_out :
    s.startCapture.out = s.out := rfl

@[simp] theorem State.startCapture_outcome :
    s.startCapture.outcome = s.outcome := rfl

/-! ### State.collect -/

@[simp] theorem State.collect_tf (d : Byte) :
    (s.collect d).tf = s.tf := rfl

@[simp] theorem State.collect_hobActive (d : Byte) :
    (s.collect d).hobActive = s.hobActive := rfl

@[simp] theorem State.collect_cdb (d : Byte) :
    (s.collect d).cdb = { s.cdb with collected := s.cdb.collected ++ [d] } := rfl

@[simp] theorem State.collect_ed (d : Byte) :
    (s.collect d).ed = s.ed := rfl

@[simp] theorem State.collect_cfg (d : Byte) :
    (s.collect d).cfg = s.cfg := rfl

@[simp] theorem State.collect_pres (d : Byte) :
    (s.collect d).pres = s.pres := rfl

@[simp] theorem State.collect_tables (d : Byte) :
    (s.collect d).tables = s.tables := rfl

@[simp] theorem State.collect_simulStrobe (d : Byte) :
    (s.collect d).simulStrobe = s.simulStrobe := rfl

@[simp] theorem State.collect_input (d : Byte) :
    (s.collect d).input = s.input := rfl

@[simp] theorem State.collect_snap (d : Byte) :
    (s.collect d).snap = s.snap := rfl

@[simp] theorem State.collect_out (d : Byte) :
    (s.collect d).out = s.out := rfl

@[simp] theorem State.collect_outcome (d : Byte) :
    (s.collect d).outcome = s.outcome := rfl

/-! ### State.endCapture -/

@[simp] theorem State.endCapture_tf :
    s.endCapture.tf = s.tf := rfl

@[simp] theorem State.endCapture_hobActive :
    s.endCapture.hobActive = s.hobActive := rfl

@[simp] theorem State.endCapture_cdb :
    s.endCapture.cdb = { s.cdb with active := false } := rfl

@[simp] theorem State.endCapture_ed :
    s.endCapture.ed = s.ed := rfl

@[simp] theorem State.endCapture_cfg :
    s.endCapture.cfg = s.cfg := rfl

@[simp] theorem State.endCapture_pres :
    s.endCapture.pres = s.pres := rfl

@[simp] theorem State.endCapture_tables :
    s.endCapture.tables = s.tables := rfl

@[simp] theorem State.endCapture_simulStrobe :
    s.endCapture.simulStrobe = s.simulStrobe := rfl

@[simp] theorem State.endCapture_input :
    s.endCapture.input = s.input := rfl

@[simp] theorem State.endCapture_snap :
    s.endCapture.snap = s.snap := rfl

@[simp] theorem State.endCapture_out :
    s.endCapture.out = s.out := rfl

@[simp] theorem State.endCapture_outcome :
    s.endCapture.outcome = s.outcome := rfl

/-! ### State.consume -/

@[simp] theorem State.consume_tf (x : Sample) (rest : List Sample) :
    (s.consume x rest).tf = s.tf := rfl

@[simp] theorem State.consume_hobActive (x : Sample) (rest : List Sample) :
    (s.consume x rest).hobActive = s.hobActive := rfl

@[simp] theorem State.consume_cdb (x : Sample) (rest : List Sample) :
    (s.consume x rest).cdb = s.cdb := rfl

@[simp] theorem State.consume_ed (x : Sample) (rest : List Sample) :
    (s.consume x rest).ed = edgeAfter s.pres x := rfl

@[simp] theorem State.consume_cfg (x : Sample) (rest : List Sample) :
    (s.consume x rest).cfg = s.cfg := rfl

@[simp] theorem State.consume_pres (x : Sample) (rest : List Sample) :
    (s.consume x rest).pres = s.pres := rfl

@[simp] theorem State.consume_tables (x : Sample) (rest : List Sample) :
    (s.consume x rest).tables = s.tables := rfl

@[simp] theorem State.consume_simulStrobe (x : Sample) (rest : List Sample) :
    (s.consume x rest).simulStrobe = s.simulStrobe := rfl

@[simp] theorem State.consume_input (x : Sample) (rest : List Sample) :
    (s.consume x rest).input = rest := rfl

@[simp] theorem State.consume_snap (x : Sample) (rest : List Sample) :
    (s.consume x rest).snap = s.snap := rfl

@[simp] theorem State.consume_out (x : Sample) (rest : List Sample) :
    (s.consume x rest).out = s.out := rfl

@[simp] theorem State.consume_outcome (x : Sample) (rest : List Sample) :
    (s.consume x rest).outcome = s.outcome := rfl

/-! ### State.latch -/

@[simp] theorem State.latch_tf (x : Sample) :
    (s.latch x).tf = s.tf := rfl

@[simp] theorem State.latch_hobActive (x : Sample) :
    (s.latch x).hobActive = s.hobActive := rfl

@[simp] theorem State.latch_cdb (x : Sample) :
    (s.latch x).cdb = s.cdb := rfl

@[simp] theorem State.latch_ed (x : Sample) :
    (s.latch x).ed = s.ed := rfl

@[simp] theorem State.latch_cfg (x : Sample) :
    (s.latch x).cfg = s.cfg := rfl

@[simp] theorem State.latch_pres (x : Sample) :
    (s.latch x).pres = s.pres := rfl

@[simp] theorem State.latch_tables (x : Sample) :
    (s.latch x).tables = s.tables := rfl

@[simp] theorem State.latch_simulStrobe (x : Sample) :
    (s.latch x).simulStrobe = s.simulStrobe := rfl

@[simp] theorem State.latch_input (x : Sample) :
    (s.latch x).input = s.input := rfl

@[simp] theorem State.latch_snap (x : Sample) :
    (s.latch x).snap = x := rfl

@[simp] theorem State.latch_out (x : Sample) :
    (s.latch x).out = s.out := rfl

@[simp] theorem State.latch_outcome (x : Sample) :
    (s.latch x).outcome = s.outcome := rfl

/-! ### State.release -/

@[simp] theorem State.release_tf :
    s.release.tf = s.tf := rfl

@[simp] theorem State.release_hobActive :
    s.release.hobActive = s.hobActive := rfl

@[simp] theorem State.release_cdb :
    s.release.cdb = s.cdb := rfl

@[simp] theorem State.release_ed :
    s.release.ed = s.ed := rfl

@[simp] theorem State.release_cfg :
    s.release.cfg = s.cfg := rfl

@[simp] theorem State.release_pres :
    s.release.pres = s.pres := rfl

@[simp] theorem State.release_tables :
    s.release.tables = s.tables := rfl

@[simp] theorem State.release_simulStrobe :
    s.release.simulStrobe = s.simulStrobe := rfl

@[simp] theorem State.release_input :
    s.release.input = s.input := rfl

@[simp] theorem State.release_snap :
    s.release.snap = {} := rfl

@[simp] theorem State.release_out :
    s.release.out = s.out := rfl

@[simp] theorem State.release_outcome :
    s.release.outcome = s.outcome := rfl

/-! ### The configuration read through updates -/

@[simp] theorem State.withOutcome_parseCdb (c : OutcomeCode) :
    (s.withOutcome c).parseCdb = s.parseCdb := rfl

@[simp] theorem State.withOutcome_ignoreData (c : OutcomeCode) :
    (s.withOutcome c).ignoreData = s.ignoreData := rfl

@[simp] theorem State.withOutcome_squelchDma (c : OutcomeCode) :
    (s.withOutcome c).squelchDma = s.squelchDma := rfl

@[simp] theorem State.withOutcome_emitReads (c : OutcomeCode) :
    (s.withOutcome c).emitReads = s.emitReads := rfl

@[simp] theorem State.emit_parseCdb (c : Category) (p : Payload) :
    (s.emit c p).parseCdb = s.parseCdb := rfl

@[simp] theorem State.emit_ignoreData (c : Category) (p : Payload) :
    (s.emit c p).ignoreData = s.ignoreData := rfl

@[simp] theorem State.emit_squelchDma (c : Category) (p : Payload) :
    (s.emit c p).squelchDma = s.squelchDma := rfl

@[simp] theorem State.emit_emitReads (c : Category) (p : Payload) :
    (s.emit c p).emitReads = s.emitReads := rfl

@[simp] theorem State.setField_parseCdb (f : TfField) (v : Byte) :
    (s.setField f v).parseCdb = s.parseCdb := rfl

@[simp] theorem State.setField_ignoreData (f : TfField) (v : Byte) :
    (s.setField f v).ignoreData = s.ignoreData := rfl

@[simp] theorem State.setField_squelchDma (f : TfField) (v : Byte) :
    (s.setField f v).squelchDma = s.squelchDma := rfl

@[simp] theorem State.setField_emitReads (f : TfField) (v : Byte) :
    (s.setField f v).emitReads = s.emitReads := rfl

@[simp] theorem State.setHob_parseCdb (d : Byte) :
    (s.setHob d).parseCdb = s.parseCdb := rfl

@[simp] theorem State.setHob_ignoreData (d : Byte) :
    (s.setHob d).ignoreData = s.ignoreData := rfl

@[simp] theorem State.setHob_squelchDma (d : Byte) :
    (s.setHob d).squelchDma = s.squelchDma := rfl

@[simp] theorem State.setHob_emitReads (d : Byte) :
    (s.setHob d).emitReads = s.emitReads := rfl

@[simp] theorem State.startCapture_parseCdb :
    s.startCapture.parseCdb = s.parseCdb := rfl

@[simp] theorem State.startCapture_ignoreData :
    s.startCapture.ignoreData = s.ignoreData := rfl

@[simp] theorem State.startCapture_squelchDma :
    s.startCapture.squelchDma = s.squelchDma := rfl

@[simp] theorem State.startCapture_emitReads :
    s.startCapture.emitReads = s.emitReads := rfl

@[simp] theorem State.collect_parseCdb (d : Byte) :
    (s.collect d).parseCdb = s.parseCdb := rfl

@[simp] theorem State.collect_ignoreData (d : Byte) :
    (s.collect d).ignoreData = s.ignoreData := rfl

@[simp] theorem State.collect_squelchDma (d : Byte) :
    (s.collect d).squelchDma = s.squelchDma := rfl

@[simp] theorem State.collect_emitReads (d : Byte) :
    (s.collect d).emitReads = s.emitReads := rfl

@[simp] theorem State.endCapture_parseCdb :
    s.endCapture.parseCdb = s.parseCdb := rfl

@[simp] theorem State.endCapture_ignoreData :
    s.endCapture.ignoreData = s.ignoreData := rfl

@[simp] theorem State.endCapture_squelchDma :
    s.endCapture.squelchDma = s.squelchDma := rfl

@[simp] theorem State.endCapture_emitReads :
    s.endCapture.emitReads = s.emitReads := rfl

@[simp] theorem State.consume_parseCdb (x : Sample) (rest : List Sample) :
    (s.consume x rest).parseCdb = s.parseCdb := rfl

@[simp] theorem State.consume_ignoreData (x : Sample) (rest : List Sample) :
    (s.consume x rest).ignoreData = s.ignoreData := rfl

@[simp] theorem State.consume_squelchDma (x : Sample) (rest : List Sample) :
    (s.consume x rest).squelchDma = s.squelchDma := rfl

@[simp] theorem State.consume_emitReads (x : Sample) (rest : List Sample) :
    (s.consume x rest).emitReads = s.emitReads := rfl

@[simp] theorem State.latch_parseCdb (x : Sample) :
    (s.latch x).parseCdb = s.parseCdb := rfl

@[simp] theorem State.latch_ignoreData (x : Sample) :
    (s.latch x).ignoreData = s.ignoreData := rfl

@[simp] theorem State.latch_squelchDma (x : Sample) :
    (s.latch x).squelchDma = s.squelchDma := rfl

@[simp] theorem State.latch_emitReads (x : Sample) :
    (s.latch x).emitReads = s.emitReads := rfl

@[simp] theorem State.release_parseCdb :
    s.release.parseCdb = s.parseCdb := rfl

@[simp] theorem State.release_ignoreData :
    s.release.ignoreData = s.ignoreData := rfl

@[simp] theorem State.release_squelchDma :
    s.release.squelchDma = s.squelchDma := rfl

@[simp] theorem State.release_emitReads :
    s.release.emitReads = s.emitReads := rfl

/-! ### intrqCheck writes nothing but the output -/

@[simp] theorem State.intrqCheck_tf : s.intrqCheck.tf = s.tf := by
  unfold State.intrqCheck; split <;> rfl

@[simp] theorem State.intrqCheck_hobActive : s.intrqCheck.hobActive = s.hobActive := by
  unfold State.intrqCheck; split <;> rfl

@[simp] theorem State.intrqCheck_cdb : s.intrqCheck.cdb = s.cdb := by
  unfold State.intrqCheck; split <;> rfl

@[simp] theorem State.intrqCheck_ed : s.intrqCheck.ed = s.ed := by
  unfold State.intrqCheck; split <;> rfl

@[simp] theorem State.intrqCheck_cfg : s.intrqCheck.cfg = s.cfg := by
  unfold State.intrqCheck; split <;> rfl

@[simp] theorem State.intrqCheck_pres : s.intrqCheck.pres = s.pres := by
  unfold State.intrqCheck; split <;> rfl

@[simp] theorem State.intrqCheck_tables : s.intrqCheck.tables = s.tables := by
  unfold State.intrqCheck; split <;> rfl

@[simp] theorem State.intrqCheck_simulStrobe : s.intrqCheck.simulStrobe = s.simulStrobe := by
  unfold State.intrqCheck; split <;> rfl

@[simp] theorem State.intrqCheck_input : s.intrqCheck.input = s.input := by
  unfold State.intrqCheck; split <;> rfl

@[simp] theorem State.intrqCheck_snap : s.intrqCheck.snap = s.snap := by
  unfold State.intrqCheck; split <;> rfl

@[simp] theorem State.intrqCheck_out :
    s.intrqCheck.out = s.out ++ (if s.pres.intrq && !s.snap.intrq then [record s.snap.idx .interrupt .intrqCleared]
      else []) := by
  cases hp : s.pres.intrq <;> cases hl : s.snap.intrq <;>
    simp [State.intrqCheck, Pres.wired, level, Sample.line, hp, hl]

@[simp] theorem State.intrqCheck_outcome : s.intrqCheck.outcome = s.outcome := by
  unfold State.intrqCheck; split <;> rfl

/-! ### The shadow bank -/

/-- Reading a register after a write gives the value written. -/
@[simp] theorem TaskFile.get_set_self (t : TaskFile) (f : TfField) (v : Byte) : (t.set f v).get f = v := by
  cases f <;> rfl

/-- A write leaves every other register alone. -/
theorem TaskFile.get_set_of_ne (t : TaskFile) {f g : TfField} (h : g ≠ f) (v : Byte) :
    (t.set f v).get g = t.get g := by
  cases f <;> cases g <;> first | rfl | exact absurd rfl h

/-- Two banks that agree on every register are equal. -/
theorem TaskFile.ext_get {t u : TaskFile} (h : ∀ f, t.get f = u.get f) : t = u := by
  have h1 := h .features
  have h2 := h .sectorCount
  have h3 := h .lba0
  have h4 := h .lba1
  have h5 := h .lba2
  have h6 := h .device
  have h7 := h .hobFeatures
  have h8 := h .hobSectorCount
  have h9 := h .hobLba0
  have h10 := h .hobLba1
  have h11 := h .hobLba2
  cases t; cases u
  simp only [TaskFile.get] at h1 h2 h3 h4 h5 h6 h7 h8 h9 h10 h11
  subst_vars
  rfl

end Sys2Proof.Machine
end

