-- ==== Sys2Proof/Laws/Ops.lean ====
section
/-! SUPPORT. One lemma for each shared operation that says all it can do. -/

namespace Sys2Proof.Machine

variable (s t : State)

@[simp] theorem finish_eq (c : OutcomeCode) : finish c s = .next (s.withOutcome c) := rfl

@[simp] theorem discard_eq (c : OutcomeCode) : discard c s = .next (s.withOutcome c) := rfl

/-- The end sample of a record never lies before its start sample (R223). -/
theorem le_annEnd (ss : Nat) : ss ≤ annEnd ss := Nat.le_add_right _ _

/-- All that a redirected write does (R131 to R135). -/
theorem paramWrite_eq (lo hi : TfField) (d : Byte) :
    paramWrite lo hi d s = .next (((s.setField (if s.hobActive then hi else lo) d).emit .registerWrite
      (.regWrite (if s.hobActive then hi else lo) d)).withOutcome .dispatched) := rfl

/-- The category and payload of the record a read emits (R170). -/
def readRecord (reg : RegId) (d : Byte) : Category × Payload :=
  if reg = .status ∨ reg = .altStatus then (.status, .statusRead reg d) else (.registerRead, .regRead reg d)

/-- All that the read arm does (R164, R170): one record, and the INTRQ record after it. -/
theorem readArm_eq (reg : RegId) (d : Byte) :
    readArm reg d s =
      .next (((s.emit (readRecord reg d).1 (readRecord reg d).2).intrqCheck).withOutcome .dispatched) := by
  unfold readArm readRecord
  split <;> rfl

/-- All that a read under `emit_reads` does (R161). -/
theorem optionalRead_eq (reg : RegId) (d : Byte) :
    optionalRead reg d s = if s.emitReads then readArm reg d s else .next (s.withOutcome .noArm) := rfl

/-- All that collecting a byte does (R190, R194). -/
theorem collectByte_eq (d : Byte) :
    collectByte d s =
      let name := if s.cdb.collected.length = 0 then some (resolveCdb s.tables d) else none
      let u := (s.collect d).emit .cdb (.cdbByte s.cdb.collected.length d name)
      if s.cdb.collected.length + 1 = s.cdb.expectedLength then
        .next ((u.endCapture.emit .cdb (.cdbComplete (s.cdb.collected ++ [d]))).withOutcome .dispatched)
      else .next (u.withOutcome .dispatched) := by
  by_cases h : s.cdb.collected.length + 1 = s.cdb.expectedLength <;>
    simp [collectByte, captureComplete, h]

/-- When the end of a cycle answers a next state: the meaning did, and the snapshot is blank (R35). -/
theorem endCycle_next (r : Host.Outcome State Fault Refusal) :
    endCycle r = .next t ↔ ∃ u, r = .next u ∧ t = u.release := by
  cases r <;> simp [endCycle, eq_comm]

/-- What consuming a sample comes to (R100): every case of `fetch`. -/
theorem fetch_cases :
    (s.input = [] ∧ fetch s = none) ∨
    ∃ x rest, s.input = x :: rest ∧
      ((strobe s x = none ∧ fetch s = some ((s.consume x rest).withOutcome .noEdge, none)) ∨
       (strobe s x = some none ∧ fetch s = some ((s.consume x rest).withOutcome .simulStrobe, none)) ∨
       ∃ wr, strobe s x = some (some wr) ∧
        ((squelched s x = true ∧
            fetch s = some ((s.consume x rest).withOutcome .squelched, none)) ∨
         (squelched s x = false ∧
            fetch s = some ((s.consume x rest).latch x, some (cycleWord s.pres x wr))))) := by
  unfold fetch
  cases hi : s.input with
  | nil => exact .inl ⟨rfl, rfl⟩
  | cons x rest =>
    refine .inr ⟨x, rest, rfl, ?_⟩
    cases hs : strobe s x with
    | none => exact .inl ⟨rfl, by simp [hs]⟩
    | some d =>
      cases d with
      | none => exact .inr (.inl ⟨rfl, by simp [hs]⟩)
      | some wr =>
        refine .inr (.inr ⟨wr, rfl, ?_⟩)
        cases hq : squelched s x with
        | true => exact .inl ⟨rfl, by simp [hs, hq]⟩
        | false => exact .inr ⟨rfl, by simp [hs, hq]⟩

/-- Every case of a step that answers a next state (R100). -/
theorem step_cases (h : step s = .next t) :
    ∃ x rest, s.input = x :: rest ∧
      ((strobe s x = none ∧ t = (s.consume x rest).withOutcome .noEdge) ∨
       (strobe s x = some none ∧ t = (s.consume x rest).withOutcome .simulStrobe) ∨
       ∃ wr, strobe s x = some (some wr) ∧
        ((squelched s x = true ∧ t = (s.consume x rest).withOutcome .squelched) ∨
         (squelched s x = false ∧ ∃ u,
            exec (decodeWord (cycleWord s.pres x wr)) ((s.consume x rest).latch x) = .next u ∧ t = u.release))) := by
  unfold step at h
  rcases fetch_cases s with ⟨-, hf⟩ | ⟨x, rest, hi, ⟨hs, hf⟩ | ⟨hs, hf⟩ | ⟨wr, hs, ⟨hq, hf⟩ | ⟨hq, hf⟩⟩⟩ <;>
    rw [hf] at h
  · cases h
  · cases h
    exact ⟨x, rest, hi, .inl ⟨hs, rfl⟩⟩
  · cases h
    exact ⟨x, rest, hi, .inr (.inl ⟨hs, rfl⟩)⟩
  · cases h
    exact ⟨x, rest, hi, .inr (.inr ⟨wr, hs, .inl ⟨hq, rfl⟩⟩)⟩
  · obtain ⟨u, hu, ht⟩ := (endCycle_next _ _).1 h
    exact ⟨x, rest, hi, .inr (.inr ⟨wr, hs, .inr ⟨hq, u, hu, ht⟩⟩)⟩

end Sys2Proof.Machine
end

