-- ==== Sys2Proof/Laws/PerInstr.lean ====
section
/-! SUPPORT. Facts stated about each instruction: the row of the opcode map its encoding matches (R74). -/

namespace Sys2Proof.Laws

/-- The encoding of a well-formed instruction matches the row of the opcode map that its mnemonic names:
`(W & mask) = match` (R74). -/
def TableRow.Statement (i : Instr) : Prop :=
  i.wf = true → ∃ r ∈ opcodeTable, r.mnemonic = i.mnemonic ∧ encode i &&& r.mask = r.pattern

/-- A row whose mask covers W[5:0] reads only the low six bits of a word. -/
theorem and_lowSix (d : Byte) (lo m : BitVec 6) : (d ++ lo) &&& (0#8 ++ m) = 0#8 ++ (lo &&& m) := by
  rw [BitVec.and_append]
  simp

/-- The rows of the register classes: the mask 0x003F keeps the six fixed bits. -/
theorem tableRow_ofLowSix {i : Instr} {d : Byte} {lo : BitVec 6} {name : String} (he : encode i = d ++ lo)
    (hn : name = i.mnemonic) (hr : ⟨name, 0#8 ++ lo, 0x003F#14⟩ ∈ opcodeTable) : TableRow.Statement i := fun _ =>
  ⟨_, hr, hn, by
    have h := and_lowSix d lo 0x3F#6
    rw [show lo &&& 0x3F#6 = lo from by simpa using BitVec.and_allOnes (x := lo)] at h
    rw [he]
    exact h⟩

/-- The rows of the NONE classes: the mask reads the fixed bits of DA and the two selects. -/
theorem and_noneBits (d : Byte) (da mda : BitVec 3) (sel : BitVec 2) (wr : Bool) :
    (d ++ da ++ sel ++ BitVec.ofBool wr) &&& (0#8 ++ mda ++ 0b11#2 ++ 0#1) =
      0#8 ++ (da &&& mda) ++ sel ++ 0#1 := by
  rw [BitVec.and_append, BitVec.and_append, BitVec.and_append]
  rw [show sel &&& 0b11#2 = sel from by simpa using BitVec.and_allOnes (x := sel)]
  simp

theorem TableRow.dataW (d : Byte) : TableRow.Statement (.dataW d) :=
  tableRow_ofLowSix (d := d) (name := "DATA_W") rfl rfl (by decide)

theorem TableRow.featuresW (d : Byte) : TableRow.Statement (.featuresW d) :=
  tableRow_ofLowSix (d := d) (name := "FEATURES_W") rfl rfl (by decide)

theorem TableRow.seccntW (d : Byte) : TableRow.Statement (.seccntW d) :=
  tableRow_ofLowSix (d := d) (name := "SECCNT_W") rfl rfl (by decide)

theorem TableRow.lba0W (d : Byte) : TableRow.Statement (.lba0W d) :=
  tableRow_ofLowSix (d := d) (name := "LBA0_W") rfl rfl (by decide)

theorem TableRow.lba1W (d : Byte) : TableRow.Statement (.lba1W d) :=
  tableRow_ofLowSix (d := d) (name := "LBA1_W") rfl rfl (by decide)

theorem TableRow.lba2W (d : Byte) : TableRow.Statement (.lba2W d) :=
  tableRow_ofLowSix (d := d) (name := "LBA2_W") rfl rfl (by decide)

theorem TableRow.deviceW (d : Byte) : TableRow.Statement (.deviceW d) :=
  tableRow_ofLowSix (d := d) (name := "DEVICE_W") rfl rfl (by decide)

theorem TableRow.commandW (d : Byte) : TableRow.Statement (.commandW d) :=
  tableRow_ofLowSix (d := d) (name := "COMMAND_W") rfl rfl (by decide)

theorem TableRow.commandPacketW : TableRow.Statement .commandPacketW := by
  unfold TableRow.Statement
  decide

theorem TableRow.dataR (d : Byte) : TableRow.Statement (.dataR d) :=
  tableRow_ofLowSix (d := d) (name := "DATA_R") rfl rfl (by decide)

theorem TableRow.errorR (d : Byte) : TableRow.Statement (.errorR d) :=
  tableRow_ofLowSix (d := d) (name := "ERROR_R") rfl rfl (by decide)

theorem TableRow.seccntR (d : Byte) : TableRow.Statement (.seccntR d) :=
  tableRow_ofLowSix (d := d) (name := "SECCNT_R") rfl rfl (by decide)

theorem TableRow.lba0R (d : Byte) : TableRow.Statement (.lba0R d) :=
  tableRow_ofLowSix (d := d) (name := "LBA0_R") rfl rfl (by decide)

theorem TableRow.lba1R (d : Byte) : TableRow.Statement (.lba1R d) :=
  tableRow_ofLowSix (d := d) (name := "LBA1_R") rfl rfl (by decide)

theorem TableRow.lba2R (d : Byte) : TableRow.Statement (.lba2R d) :=
  tableRow_ofLowSix (d := d) (name := "LBA2_R") rfl rfl (by decide)

theorem TableRow.deviceR (d : Byte) : TableRow.Statement (.deviceR d) :=
  tableRow_ofLowSix (d := d) (name := "DEVICE_R") rfl rfl (by decide)

theorem TableRow.statusR (d : Byte) : TableRow.Statement (.statusR d) :=
  tableRow_ofLowSix (d := d) (name := "STATUS_R") rfl rfl (by decide)

theorem TableRow.devctlW (d : Byte) : TableRow.Statement (.devctlW d) :=
  tableRow_ofLowSix (d := d) (name := "DEVCTL_W") rfl rfl (by decide)

theorem TableRow.altstatusR (d : Byte) : TableRow.Statement (.altstatusR d) :=
  tableRow_ofLowSix (d := d) (name := "ALTSTATUS_R") rfl rfl (by decide)

theorem TableRow.drvaddrW (d : Byte) : TableRow.Statement (.drvaddrW d) :=
  tableRow_ofLowSix (d := d) (name := "DRVADDR_W") rfl rfl (by decide)

theorem TableRow.drvaddrR (d : Byte) : TableRow.Statement (.drvaddrR d) :=
  tableRow_ofLowSix (d := d) (name := "DRVADDR_R") rfl rfl (by decide)

theorem TableRow.noneCtl03 (wr : Bool) (da : BitVec 3) (d : Byte) : TableRow.Statement (.noneCtl03 wr da d) := fun h =>
  ⟨⟨"NONE_CTL_0_3", 0x0002#14, 0x0026#14⟩, by decide, rfl, by
    have hda : da &&& 0b100#3 = 0b000#3 := by
      revert h
      simp only [Instr.wf]
      revert da
      decide
    have hb := and_noneBits d da 0b100#3 0b01#2 wr
    rw [hda] at hb
    exact hb⟩

theorem TableRow.noneCtl45 (wr : Bool) (da : BitVec 3) (d : Byte) : TableRow.Statement (.noneCtl45 wr da d) := fun h =>
  ⟨⟨"NONE_CTL_4_5", 0x0022#14, 0x0036#14⟩, by decide, rfl, by
    have hda : da &&& 0b110#3 = 0b100#3 := by
      revert h
      simp only [Instr.wf]
      revert da
      decide
    have hb := and_noneBits d da 0b110#3 0b01#2 wr
    rw [hda] at hb
    exact hb⟩

theorem TableRow.noneBothSel (wr : Bool) (da : BitVec 3) (d : Byte) : TableRow.Statement (.noneBothSel wr da d) := fun h =>
  ⟨⟨"NONE_BOTH_SEL", 0x0000#14, 0x0006#14⟩, by decide, rfl, by
    have hda : da &&& 0b000#3 = 0b000#3 := by
      revert h
      simp only [Instr.wf]
      revert da
      decide
    have hb := and_noneBits d da 0b000#3 0b00#2 wr
    rw [hda] at hb
    exact hb⟩

theorem TableRow.noneNoSel (wr : Bool) (da : BitVec 3) (d : Byte) : TableRow.Statement (.noneNoSel wr da d) := fun h =>
  ⟨⟨"NONE_NO_SEL", 0x0006#14, 0x0006#14⟩, by decide, rfl, by
    have hda : da &&& 0b000#3 = 0b000#3 := by
      revert h
      simp only [Instr.wf]
      revert da
      decide
    have hb := and_noneBits d da 0b000#3 0b11#2 wr
    rw [hda] at hb
    exact hb⟩

end Sys2Proof.Laws
end

