-- ==== Sys2Proof/Tests/Slice0.lean ====
section
/-! SUPPORT. Tests: expected results are the vectors of 95_test_vectors.md (named V-…, L1-…) or hand-made from the rules
cited; and for every obligation with hypotheses a concrete case that meets them. No test reads an end sample, which is
free (log 6). -/

namespace Sys2Proof.Tests

open Sys2Proof.Machine

/-! ### Well-formedness refuses what the encoding does not admit (R74, R75) -/

theorem test_wf_refuses_commandW_packet : Instr.wf (.commandW 0xA0#8) = false := by decide

theorem test_wf_refuses_noneCtl03_high : Instr.wf (.noneCtl03 true 4#3 0#8) = false := by decide

theorem test_wf_refuses_noneCtl45_low : Instr.wf (.noneCtl45 false 3#3 0#8) = false := by decide

theorem test_wf_refuses_noneCtl45_high : Instr.wf (.noneCtl45 false 6#3 0#8) = false := by decide

theorem test_wf_bounds : Instr.wf (.commandW 0xA1#8) = true ∧ Instr.wf (.noneCtl03 true 3#3 0#8) = true ∧
    Instr.wf (.noneCtl45 true 4#3 0#8) = true ∧ Instr.wf (.noneCtl45 true 5#3 0#8) = true := by decide

/-! ### Decoding: words written bit by bit from R74, D then DA then CS1N CS0N WR -/

theorem test_decode_dataW : decodeWord 0b10101011000101#14 = .dataW 0xAB#8 := by decide
theorem test_decode_featuresW : decodeWord 0b00000011001101#14 = .featuresW 0x03#8 := by decide
theorem test_decode_seccntW : decodeWord 0b00000001010101#14 = .seccntW 0x01#8 := by decide
theorem test_decode_lba0W : decodeWord 0b00010000011101#14 = .lba0W 0x10#8 := by decide
theorem test_decode_lba1W : decodeWord 0b10111011100101#14 = .lba1W 0xBB#8 := by decide
theorem test_decode_lba2W : decodeWord 0b00010010101101#14 = .lba2W 0x12#8 := by decide
theorem test_decode_deviceW : decodeWord 0b11100000110101#14 = .deviceW 0xE0#8 := by decide
theorem test_decode_commandW : decodeWord 0b00100000111101#14 = .commandW 0x20#8 := by decide
theorem test_decode_commandPacketW : decodeWord 0b10100000111101#14 = .commandPacketW := by decide
theorem test_decode_dataR : decodeWord 0b01000001000100#14 = .dataR 0x41#8 := by decide
theorem test_decode_errorR : decodeWord 0b00000100001100#14 = .errorR 0x04#8 := by decide
theorem test_decode_seccntR : decodeWord 0b10011001010100#14 = .seccntR 0x99#8 := by decide
theorem test_decode_lba0R : decodeWord 0b00010000011100#14 = .lba0R 0x10#8 := by decide
theorem test_decode_lba1R : decodeWord 0b00000001100100#14 = .lba1R 0x01#8 := by decide
theorem test_decode_lba2R : decodeWord 0b00001000101100#14 = .lba2R 0x08#8 := by decide
theorem test_decode_deviceR : decodeWord 0b11100000110100#14 = .deviceR 0xE0#8 := by decide
theorem test_decode_statusR : decodeWord 0b01010000111100#14 = .statusR 0x50#8 := by decide
theorem test_decode_devctlW : decodeWord 0b10000000110011#14 = .devctlW 0x80#8 := by decide
theorem test_decode_altstatusR : decodeWord 0b11010000110010#14 = .altstatusR 0xD0#8 := by decide
theorem test_decode_drvaddrW : decodeWord 0b01010101111011#14 = .drvaddrW 0x55#8 := by decide
theorem test_decode_drvaddrR : decodeWord 0b11111111111010#14 = .drvaddrR 0xFF#8 := by decide
theorem test_decode_noneCtl03 : decodeWord 0b10000000010011#14 = .noneCtl03 true 2#3 0x80#8 := by decide
theorem test_decode_noneCtl45 : decodeWord 0b00010001101010#14 = .noneCtl45 false 5#3 0x11#8 := by decide
theorem test_decode_noneBothSel : decodeWord 0b10000000110001#14 = .noneBothSel true 6#3 0x80#8 := by decide
theorem test_decode_noneNoSel : decodeWord 0b10000000110111#14 = .noneNoSel true 6#3 0x80#8 := by decide

/-- The counts below the table of V-CL: of the 64 values of W[5:0], 44 are no register. -/
theorem test_decode_counts :
    ((List.range 64).filter fun n =>
      classify (!cs0nOf (BitVec.ofNat 14 n)) (!cs1nOf (BitVec.ofNat 14 n)) (daOf (BitVec.ofNat 14 n))
        (wrOf (BitVec.ofNat 14 n)) = none).length = 44 := by decide

theorem test_decodeBytes_reads_low_byte_first :
    decodeBytes [0x3D#8, 0x08#8, 0x77#8] = .ok (.commandW 0x20#8, [0x77#8]) := by rfl

theorem test_decodeBytes_refuses_one_byte : decodeBytes [0x3D#8] = .error .truncated := by rfl

theorem test_decodeBytes_refuses_bit14 : decodeBytes [0x3D#8, 0x48#8] = .error .beyondFourteenBits := by rfl

theorem test_encodeBytes : encodeBytes (.commandW 0x20#8) = [0x3D#8, 0x08#8] := by decide

theorem test_decodeTableWord : decodeTableWord 16 0x283D = some .commandPacketW ∧ decodeTableWord 16 0x4000 = none := by
  decide

theorem test_rowOfWord_priority :
    (rowOfWord 0x283D#14).map (·.mnemonic) = some "COMMAND_PACKET_W" ∧
    (rowOfWord 0x083D#14).map (·.mnemonic) = some "COMMAND_W" := by decide

/-! ### One step on a small state -/

/-- The state after reset, in a session with the given options and INTRQ and DMARQ wired or not. -/
def session (cfg : BitVec 4) (intrq dmarq : Bool) : State :=
  { State.reset with cfg := cfg, pres := { intrq := intrq, dmarq := dmarq } }

/-- Default options, nothing optional wired. -/
def plain : State := session 0b0111#4 false false

/-- `s` with one cycle to come, edge sample 10. -/
def ready (s : State) (w : CycleWord) (dmarq intrq : Bool) : State :=
  { s with input := [edgeSample 10 w dmarq intrq], ed := { prevDiow := true, prevDior := true, havePrev := true } }

/-- What a step shows: the outcome code, and the start sample, category and payload of each record. -/
def seen (r : Host.Outcome State Fault Refusal) : Option (Option OutcomeCode × List (Nat × Category × Payload)) :=
  match r with
  | .next t => some (t.outcome, t.out.map fun a => (a.ss, a.cat, a.payload))
  | _ => none

/-- One part of the next state. -/
def part {α : Type} (g : State → α) (r : Host.Outcome State Fault Refusal) : Option α :=
  match r with
  | .next t => some (g t)
  | _ => none

/-- A step on the cycle of word `w`, nothing on DMARQ and INTRQ. -/
def go (s : State) (w : CycleWord) : Host.Outcome State Fault Refusal := step (ready s w false false)

/-- A capture with `n` zero bytes. -/
def capturing (n : Nat) : CdbCapture := { active := true, collected := List.replicate n 0#8 }

/-- V-DC-2: SRST and nIEN are read from their own bits. -/
theorem test_devctlW_fields :
    seen (go plain 0x21B3#14) = some (some .dispatched, [(10, .deviceControl, .devCtl 0x86#8 true true true)]) := by
  decide

/-- V-DC-4: every bit but D[7] set clears the latch. -/
theorem test_devctlW_clears : part (·.hobActive) (go { plain with hobActive := true } 0x1FF3#14) = some false := by
  decide

/-- V-TF-2. -/
theorem test_featuresW_hob : part (·.tf) (go { plain with hobActive := true } 0x00CD#14) =
    some { hobFeatures := 0x03#8 } := by decide

/-- V-TF-1. -/
theorem test_featuresW : seen (go plain 0x00CD#14) =
    some (some .dispatched, [(10, .registerWrite, .regWrite .features 0x03#8)]) := by decide

/-- V-TF-3. -/
theorem test_seccntW : part (·.tf) (go plain 0x0055#14) = some { sectorCount := 0x01#8 } := by decide

/-- V-TF-4. -/
theorem test_seccntW_hob : seen (go { plain with hobActive := true } 0x0055#14) =
    some (some .dispatched, [(10, .registerWrite, .regWrite .hobSectorCount 0x01#8)]) := by decide

/-- V-TF-5. -/
theorem test_lba0W : part (·.tf) (go plain 0x041D#14) = some { lba0 := 0x10#8 } := by decide

/-- Program P2, line 3. -/
theorem test_lba0W_hob : part (·.tf) (go { plain with hobActive := true } 0x011D#14) =
    some { hobLba0 := 0x04#8 } := by decide

/-- R134. -/
theorem test_lba1W : part (·.tf) (go plain 0x2EE5#14) = some { lba1 := 0xBB#8 } := by decide

/-- V-TF-6. -/
theorem test_lba1W_hob : part (·.tf) (go { plain with hobActive := true } 0x2EE5#14) =
    some { hobLba1 := 0xBB#8 } := by decide

/-- V-TF-7. -/
theorem test_lba2W : part (·.tf) (go plain 0x04AD#14) = some { lba2 := 0x12#8 } := by decide

/-- R135. -/
theorem test_lba2W_hob : part (·.tf) (go { plain with hobActive := true } 0x04AD#14) =
    some { hobLba2 := 0x12#8 } := by decide

/-- V-TF-8: never redirected. -/
theorem test_deviceW_hob : part (·.tf) (go { plain with hobActive := true } 0x3835#14) =
    some { device := 0xE0#8 } := by decide

/-- V-TF-11. -/
theorem test_drvaddrW : seen (go { plain with cfg := 0b1111#4 } 0x157B#14) = some (some .noArm, []) := by decide

/-- V-CMD-4: the bank of V-AD-2. -/
theorem test_commandW :
    seen (go { plain with tf := { device := 0x43#8, lba2 := 0x12#8, lba1 := 0x34#8, lba0 := 0x56#8 } } 0x3FFD#14) =
    some (some .dispatched, [(10, .command, .command 0xFF#8 "UNKNOWN"
      { mode := .lba, sc := 0#16, lba := 0x03123456#48, ext := false } 0x43#8)]) := by decide

/-- V-CMD-2: the custom table wins. -/
theorem test_commandW_custom :
    seen (go { plain with tables := { cusCmd := [(0x20#8, "MY READ")] } } 0x083D#14) =
    some (some .dispatched, [(10, .command, .command 0x20#8 "MY READ"
      { mode := .chs, sc := 0#16, lba := 0#48, ext := false } 0#8)]) := by decide

/-- V-CMD-6: the restart drops the bytes and has its own code. -/
theorem test_commandPacketW_restart :
    part (fun t => (t.outcome, t.cdb)) (go { plain with cdb := capturing 7 } 0x283D#14) =
    some (some .restarted, { active := true, collected := [] }) := by decide

/-- V-CMD-5. -/
theorem test_commandPacketW :
    seen (go plain 0x283D#14) = some (some .dispatched, [(10, .command, .command 0xA0#8 "UNKNOWN"
      { mode := .chs, sc := 0#16, lba := 0#48, ext := false } 0#8)]) := by decide

/-- V-CDB-5: the twelfth byte. -/
theorem test_dataW_twelfth :
    seen (go { plain with cdb := capturing 11 } 0x0005#14) =
    some (some .dispatched, [(10, .cdb, .cdbByte 11 0#8 none),
      (10, .cdb, .cdbComplete (List.replicate 12 0#8))]) := by decide

/-- V-CDB-7: without CDB parsing the capture stays where it is. -/
theorem test_dataW_marker :
    part (fun t => (t.cdb, t.out.map Ann.payload)) (go { plain with cfg := 0b0110#4, cdb := capturing 0 } 0x0485#14) =
    some (capturing 0, [.cdbMarker 0x12#8]) := by decide

/-- V-RD-14: arm 2 takes the Data read. -/
theorem test_dataR_emitReads :
    seen (go (session 0b1111#4 true false) 0x1044#14) =
    some (some .dispatched, [(10, .registerRead, .regRead .data 0x41#8), (10, .interrupt, .intrqCleared)]) := by decide

/-- V-CDB-8: a raw read in a capture, no INTRQ check. -/
theorem test_dataR_raw :
    seen (go { session 0b0101#4 true false with cdb := capturing 3 } 0x1044#14) =
    some (some .dispatched, [(10, .registerRead, .dataRaw .read 0x41#8)]) := by decide

/-- V-RD-5. -/
theorem test_errorR_silent : seen (go (session 0b0111#4 true false) 0x010C#14) = some (some .noArm, []) := by decide

/-- V-RD-6. -/
theorem test_errorR : seen (go (session 0b1111#4 false false) 0x010C#14) =
    some (some .dispatched, [(10, .registerRead, .regRead .error 0x04#8)]) := by decide

/-- V-RD-7. -/
theorem test_seccntR : seen (go (session 0b1111#4 true false) 0x0014#14) =
    some (some .dispatched, [(10, .registerRead, .regRead .sectorCount 0#8), (10, .interrupt, .intrqCleared)]) := by
  decide

/-- V-RD-8. -/
theorem test_lba0R : seen (go (session 0b1111#4 false false) 0x041C#14) =
    some (some .dispatched, [(10, .registerRead, .regRead .lba0 0x10#8)]) := by decide

/-- V-RD-9. -/
theorem test_lba1R : seen (go (session 0b1111#4 false false) 0x0024#14) =
    some (some .dispatched, [(10, .registerRead, .regRead .lba1 0#8)]) := by decide

/-- V-RD-10. -/
theorem test_lba2R : seen (go (session 0b1111#4 false false) 0x022C#14) =
    some (some .dispatched, [(10, .registerRead, .regRead .lba2 0x08#8)]) := by decide

/-- V-RD-11: the value read is not stored. -/
theorem test_deviceR : part (fun t => (t.tf, t.out.map Ann.payload)) (go (session 0b1111#4 false false) 0x3834#14) =
    some ({}, [.regRead .device 0xE0#8]) := by decide

/-- V-RD-12. -/
theorem test_drvaddrR : seen (go (session 0b1111#4 false false) 0x3FFA#14) =
    some (some .dispatched, [(10, .registerRead, .regRead .driveAddress 0xFF#8)]) := by decide

/-- V-RD-2. -/
theorem test_statusR_intrq_low : seen (go (session 0b0111#4 true false) 0x143C#14) =
    some (some .dispatched, [(10, .status, .statusRead .status 0x50#8), (10, .interrupt, .intrqCleared)]) := by decide

/-- V-RD-1: INTRQ not wired reads low, and that is no cleared interrupt. -/
theorem test_statusR_intrq_unwired : seen (go plain 0x143C#14) =
    some (some .dispatched, [(10, .status, .statusRead .status 0x50#8)]) := by decide

/-- The example of R163: INTRQ reads 1. -/
theorem test_altstatusR : seen (step (ready (session 0b0111#4 true false) 0x3432#14 false true)) =
    some (some .dispatched, [(10, .status, .statusRead .altStatus 0xD0#8)]) := by decide

/-- R35: nothing of a read cycle's snapshot is left, and its byte is in no field but the output. -/
theorem test_snapshot_is_blank_after_a_read :
    part (fun t => (t.snap, t.tf, t.cdb, t.ed)) (go (session 0b1111#4 true false) 0x3FFA#14) =
    some ({}, {}, {}, { prevDiow := true, prevDior := false, havePrev := true }) := by decide

/-- V-CL-N3. -/
theorem test_noneCtl03 : seen (go plain 0x2013#14) = some (some .unrecognized, []) := by decide

/-- V-CL-N4: not annotated even with `emit_reads`. -/
theorem test_noneCtl45 : seen (go (session 0b1111#4 false false) 0x046A#14) = some (some .unrecognized, []) := by decide

/-- V-CL-N1: not a DEVCTL_W. -/
theorem test_noneBothSel : part (fun t => (t.outcome, t.hobActive)) (go plain 0x2031#14) =
    some (some .unrecognized, false) := by decide

/-- V-CL-N2. -/
theorem test_noneNoSel : seen (go plain 0x2037#14) = some (some .unrecognized, []) := by decide

/-! ### The recognizer (V-ED, V-SQ, V-PR) -/

/-- V-ED-1: the first sample is never an edge. -/
theorem test_first_sample_is_no_edge :
    seen (step { plain with input := [edgeSample 0 0x143D#14 false false] }) = some (some .noEdge, []) := by decide

/-- V-ED-4: only the strobe that fell counts. -/
theorem test_write_while_read_held_low :
    part (·.outcome) (step { plain with
      input := [Sample.ofWord 1 0x143D#14 false false false false]
      ed := { prevDiow := true, prevDior := false, havePrev := true } }) = some (some .dispatched) := by decide

/-- V-ED-6 and V-ED-7: both strobes fall. -/
theorem test_both_strobes :
    (seen (step { plain with
      simulStrobe := .read
      input := [Sample.ofWord 1 0x143C#14 false false false false]
      ed := { prevDiow := true, prevDior := true, havePrev := true } }) =
        some (some .dispatched, [(1, .status, .statusRead .status 0x50#8)])) ∧
    (seen (step { plain with
      input := [Sample.ofWord 1 0x143C#14 false false false false]
      ed := { prevDiow := true, prevDior := true, havePrev := true } }) = some (some .simulStrobe, [])) := by decide

/-- V-SQ-1. -/
theorem test_squelched_devctlW :
    part (fun t => (t.outcome, t.hobActive)) (step (ready (session 0b0111#4 false true) 0x2033#14 true false)) =
    some (some .squelched, false) := by decide

/-- V-SQ-2: without the option DMARQ has no effect. -/
theorem test_dmarq_without_squelch :
    part (·.hobActive) (step (ready (session 0b0011#4 false true) 0x2033#14 true false)) = some true := by decide

/-- V-SQ-3: DMARQ not wired reads low, whatever its line carries. -/
theorem test_dmarq_unwired : part (·.hobActive) (step (ready plain 0x2033#14 true false)) = some true := by decide

/-- V-PR-2: the squelch comes before the classification. -/
theorem test_squelch_before_classification :
    part (·.outcome) (step (ready (session 0b0111#4 false true) 0x2031#14 true false)) = some (some .squelched) := by
  decide

/-- R112. -/
theorem test_end_of_input : step plain = .fault .endOfInput := by rfl

/-- The first instruction after reset is the one placed (log 2). -/
theorem test_withFetchWord :
    seen (step (State.reset.withFetchWord 16 0x143C)) =
    some (some .dispatched, [(1, .status, .statusRead .status 0x50#8)]) := by decide

/-! ### Addressing and text -/

/-- V-AD-4. -/
theorem test_addressing_48 :
    deriveAddressing { device := 0x43#8, lba2 := 0x12#8, lba1 := 0x34#8, lba0 := 0x56#8,
                       hobLba2 := 0xAA#8, hobLba1 := 0xBB#8, hobLba0 := 0xCC#8 } =
    { mode := .lba, sc := 0#16, lba := 0xAABBCC123456#48, ext := true } := by decide

/-- V-AD-5: hob_features does not count. -/
theorem test_addressing_hobFeatures :
    deriveAddressing { device := 0x43#8, lba2 := 0x12#8, lba1 := 0x34#8, lba0 := 0x56#8, hobFeatures := 0xFF#8 } =
    { mode := .lba, sc := 0#16, lba := 0x03123456#48, ext := false } := by decide

/-- V-AD-6: the sector count alone makes the addressing extended, and the device nibble drops out. -/
theorem test_addressing_hobSectorCount :
    deriveAddressing { device := 0x4F#8, hobSectorCount := 0x01#8 } =
    { mode := .lba, sc := 256#16, lba := 0#48, ext := true } := by decide

/-- V-AD-7. -/
theorem test_addressing_all_primary :
    deriveAddressing { features := 0xFF#8, sectorCount := 0xFF#8, lba0 := 0xFF#8, lba1 := 0xFF#8, lba2 := 0xFF#8,
                       device := 0xFF#8 } =
    { mode := .lba, sc := 255#16, lba := 0x0FFFFFFF#48, ext := false } := by decide

/-- L1-8: the source's own text. -/
theorem test_text_of_source :
    commandText 0x20#8 "READ SECTORS" { mode := .lba, sc := 1#16, lba := 0x10#48, ext := false } 0xE0#8 =
    "CMD 0x20 READ SECTORS SC=1 LBA28=0x00000010 DEV=0xE0(LBA)" := by decide

/-- V-CMD-3: the text of an extended command. -/
theorem test_text_extended :
    commandText 0x25#8 "UNKNOWN" { mode := .lba, sc := 65535#16, lba := 0xFFFFFFFFFFFF#48, ext := true } 0xFF#8 =
    "CMD 0x25 UNKNOWN SC=65535 LBA48=0xFFFFFFFFFFFF DEV=0xFF(LBA)" := by decide

/-- The reference rendering of a completion (R237). -/
theorem test_text_reference : referenceText (.cdbComplete [0x28#8, 0x0A#8]) = "CDB complete: 28 0A" := by decide

/-! ### Reset (R260) -/

theorem test_instantiate_refuses_unwired_da2 :
    instantiate { wired := mandatoryChannels.filter (· ≠ .da2) } = .refused (.mandatoryChannelUnwired .da2) := by rfl

theorem test_instantiate_latches_options :
    part (fun t => (t.cfg, t.pres.intrq)) (instantiate
      { wired := .intrq :: mandatoryChannels, ignoreData := some false, emitReads := some true }) =
    some (0b1101#4, true) := by decide

/-! ### The hypotheses of the obligations can be met -/

/-- A state about to run the DEVCTL_W of V-SQ-1, squelched. -/
def sqState : State := ready (session 0b0111#4 false true) 0x2033#14 true false

/-- The edge sample of `sqState`. -/
def sqSample : Sample := edgeSample 10 0x2033#14 true false

theorem test_hyp_DevctlWriteCopiesBitSevenToHobLatch :
    sqState.input = [sqSample] ∧ strobe sqState sqSample = some (some true) ∧ squelched sqState sqSample = true := by
  refine ⟨rfl, ?_, ?_⟩ <;> decide

/-- The latch set, for the redirected writes. -/
def hobState : State := { plain with hobActive := true }

theorem test_hyp_ParameterWritesShapeLaterAddressing_features :
    (∃ t, exec (.featuresW 0xFF#8) hobState = .next t) ∧ (∃ t, exec (.featuresW 0#8) plain = .next t) :=
  ⟨⟨_, rfl⟩, ⟨_, rfl⟩⟩

theorem test_hyp_ParameterWritesShapeLaterAddressing_seccnt :
    (hobState.hobActive = true ∧ (0x01#8 : Byte) ≠ 0#8 ∧ ∃ t, exec (.seccntW 0x01#8) hobState = .next t) ∧
    (plain.hobActive = false ∧ ∃ t, exec (.seccntW 0#8) plain = .next t) :=
  ⟨⟨rfl, by decide, _, rfl⟩, rfl, _, rfl⟩

theorem test_hyp_ParameterWritesShapeLaterAddressing_lba :
    hobState.hobActive = true ∧ (0x01#8 : Byte) ≠ 0#8 ∧ (∃ t, exec (.lba0W 0x01#8) hobState = .next t) ∧
    (∃ t, exec (.lba1W 0x01#8) hobState = .next t) ∧ (∃ t, exec (.lba2W 0x01#8) hobState = .next t) :=
  ⟨rfl, by decide, ⟨_, rfl⟩, ⟨_, rfl⟩, _, rfl⟩

theorem test_hyp_DeviceWriteIsNeverRedirected :
    ((0x00#8 : Byte) &&& 0x4F#8 = 0xB0#8 &&& 0x4F#8) ∧
    ∃ t, exec (.deviceW 0xB0#8) hobState = .next t ∧ ∃ u, exec (.commandW 0xFF#8) t = .next u :=
  ⟨by decide, _, rfl, _, rfl⟩

/-- Each of the four registers alone makes the addressing extended; at zero in all four it is not. -/
theorem test_hyp_DeriveAddressingIsPositional :
    (deriveAddressing { hobSectorCount := 1#8 }).ext = true ∧ (deriveAddressing { hobLba0 := 1#8 }).ext = true ∧
    (deriveAddressing { hobLba1 := 1#8 }).ext = true ∧ (deriveAddressing { hobLba2 := 0x80#8 }).ext = true ∧
    (deriveAddressing { hobFeatures := 0xFF#8, device := 0xFF#8 }).ext = false := by decide

theorem test_hyp_DerivedAddressingBounds :
    (deriveAddressing { sectorCount := 0xFF#8, device := 0xFF#8, lba0 := 0xFF#8 }).ext = false ∧
    (deriveAddressing { hobLba2 := 0xFF#8, device := 0xFF#8 }).ext = true := by decide

theorem test_hyp_CommandNameResolution :
    ({ cusCmd := [(0x20#8, "MY READ")] } : Tables).cusCmd.lookup 0x20#8 = some "MY READ" ∧
    ({} : Tables).cusCmd.lookup 0x20#8 = none ∧ stdCmd {} 0x20#8 = some "READ SECTORS" ∧
    stdCmd {} 0x21#8 = none ∧ (0x21#8 : Byte) ≠ 0x20#8 := by decide

theorem test_hyp_CdbNameResolution :
    ({ cusCdb := [(0x12#8, "A")] } : Tables).cusCdb.lookup 0x12#8 = some "A" ∧
    ({ stdCdb := [(0x12#8, "B")] } : Tables).cusCdb.lookup 0x12#8 = none ∧
    ({ stdCdb := [(0x12#8, "B")] } : Tables).stdCdb.lookup 0x12#8 = some "B" ∧
    ({} : Tables).stdCdb.lookup 0x12#8 = none := by decide

/-- Also for DecodeOfEncodedBytes; the second clause starts at 64. -/
theorem test_hyp_DecodeOfEncode :
    Instr.wf (.commandW 0x9F#8) = true ∧ Instr.wf .commandPacketW = true ∧ 64 ≤ (0x40#8 : Byte).toNat := by decide

theorem test_hyp_OpcodeMapMatchesTheDecoder :
    (⟨"COMMAND_W", 0x003D#14, 0x003F#14⟩ : OpcodeRow) ∈ opcodeTable ∧
    (⟨"NONE_NO_SEL", 0x0006#14, 0x0006#14⟩ : OpcodeRow) ∈ opcodeTable := by decide

/-- A state about to run the Command write 0x20. -/
def cmdState : State := ready plain 0x083D#14 false false

/-- Its edge sample. -/
def cmdSample : Sample := edgeSample 10 0x083D#14 false false

theorem test_hyp_StepRunsTheDecodedCycle :
    cmdState.input = [cmdSample] ∧ strobe cmdState cmdSample = some (some true) ∧
    squelched cmdState cmdSample = false := by
  refine ⟨rfl, ?_, ?_⟩ <;> decide

theorem test_hyp_StepRunsTheInstructionOnTheBus :
    Instr.wf (.commandW 0x20#8) = true ∧
    cmdState.ed = { prevDiow := true, prevDior := true, havePrev := true } ∧
    cmdState.input = [edgeSample 10 (encode (.commandW 0x20#8)) false false] ∧
    ¬ (cmdState.squelchDma = true ∧ cmdState.pres.dmarq = true ∧ false = true) := by
  refine ⟨by decide, rfl, by decide, by decide⟩

theorem test_hyp_PlacedTableWordRunsNext : 0 < 2 ^ 14 ∧ 16383 < 2 ^ 14 := by decide

/-- Both strobes high: no edge. -/
def quietState : State :=
  { plain with input := [highSample 9 0x083D#14 false false], ed := { prevDiow := true, havePrev := true } }

theorem test_hyp_QuietSampleOnlyUpdatesTheEdgeDetector :
    quietState.input = [highSample 9 0x083D#14 false false] ∧
    fellDiow quietState (highSample 9 0x083D#14 false false) = false ∧
    fellDior quietState (highSample 9 0x083D#14 false false) = false := by
  refine ⟨rfl, ?_, ?_⟩ <;> decide

theorem test_hyp_EveryStepTracksTheStrobes :
    cmdState.input = [cmdSample] ∧ (∃ t, step cmdState = .next t) ∧ cmdSample.diow = false ∧
    (ready plain 0x143C#14 false false).input = [edgeSample 10 0x143C#14 false false] ∧
    (∃ t, step (ready plain 0x143C#14 false false) = .next t) ∧ (edgeSample 10 0x143C#14 false false).dior = false :=
  ⟨rfl, ⟨_, rfl⟩, rfl, rfl, ⟨_, rfl⟩, rfl⟩

/-- A sample in which both strobes fall. -/
def bothSample : Sample := Sample.ofWord 1 0x143C#14 false false false false

/-- The state before it. -/
def bothState (p : SimulStrobe) : State :=
  { plain with
    simulStrobe := p
    input := [bothSample]
    ed := { prevDiow := true, prevDior := true, havePrev := true } }

theorem test_hyp_SimultaneousStrobesFollowTheParameter (p : SimulStrobe) :
    (bothState p).input = [bothSample] ∧ fellDiow (bothState p) bothSample = true ∧
    fellDior (bothState p) bothSample = true ∧ (bothState p).simulStrobe = p := ⟨rfl, rfl, rfl, rfl⟩

theorem test_hyp_DmaSquelchDropsTheCycle :
    (sqState.input = [sqSample] ∧ strobe sqState sqSample = some (some true) ∧ sqState.squelchDma = true ∧
      sqState.pres.dmarq = true ∧ sqSample.dmarq = true) ∧
    (cmdState.input = [cmdSample] ∧ strobe cmdState cmdSample = some (some true) ∧ cmdState.pres.dmarq = false) := by
  refine ⟨⟨rfl, ?_, ?_, ?_, ?_⟩, rfl, ?_, ?_⟩ <;> decide

theorem test_hyp_FirstConditionGivesTheOutcome :
    cmdState.input = [cmdSample] ∧ (fellDiow cmdState cmdSample = true ∨ fellDior cmdState cmdSample = true) := by
  refine ⟨rfl, ?_⟩
  decide

/-- One sample for each way a cycle can end (V-PR). -/
theorem test_hyp_FirstConditionGivesTheOutcome_branches :
    part (·.outcome) (step (bothState .discard)) = some (some .simulStrobe) ∧
    part (·.outcome) (step sqState) = some (some .squelched) ∧
    part (·.outcome) (go plain 0x2031#14) = some (some .unrecognized) ∧
    part (·.outcome) (go plain 0x010C#14) = some (some .noArm) := by decide

theorem test_hyp_EveryStepIsTotal : cmdState.input ≠ [] := by decide

theorem test_hyp_StepStopsOnlyAtTheEndOfInput : plain.input = [] ∧ step plain = .fault .endOfInput := ⟨rfl, rfl⟩

theorem test_hyp_BankWrittenOnlyByItsTable :
    (∃ t, exec (.lba2W 0xFF#8) hobState = .next t) ∧ (∃ t, exec (.drvaddrW 0xFF#8) hobState = .next t) ∧
    (∃ t, step sqState = .next t) ∧ sqState.nextCycle = none :=
  ⟨⟨_, rfl⟩, ⟨_, rfl⟩, ⟨_, rfl⟩, by decide⟩

theorem test_hyp_HobLatchWrittenOnlyByDevctl :
    (∃ t, step (ready plain 0x2033#14 false false) = .next t) ∧
    (ready plain 0x2033#14 false false).nextCycle = some (.devctlW 0x80#8) ∧
    (∃ t, step cmdState = .next t) ∧ cmdState.nextCycle = some (.commandW 0x20#8) :=
  ⟨⟨_, rfl⟩, by decide, ⟨_, rfl⟩, by decide⟩

theorem test_hyp_ReadsAndCommandsStoreNothing :
    isRead (.drvaddrR 0xFF#8) = true ∧ (∃ t, exec (.drvaddrR 0xFF#8) plain = .next t) ∧
    (∃ t, exec (.commandW 0xFF#8) plain = .next t) ∧ (∃ t, exec .commandPacketW plain = .next t) :=
  ⟨rfl, ⟨_, rfl⟩, ⟨_, rfl⟩, _, rfl⟩

/-- The step clauses: a squelched cycle, a read, a Command write and a PACKET command. -/
theorem test_hyp_ReadsAndCommandsStoreNothing_step :
    (sqState.input = [sqSample] ∧ (∃ t, step sqState = .next t) ∧ sqState.nextCycle = none) ∧
    ((∃ t, go plain 0x3FFA#14 = .next t) ∧
      (ready plain 0x3FFA#14 false false).nextCycle = some (.drvaddrR 0xFF#8)) ∧
    ((∃ t, step cmdState = .next t) ∧ cmdState.nextCycle = some (.commandW 0x20#8)) ∧
    ((∃ t, go plain 0x283D#14 = .next t) ∧
      (ready plain 0x283D#14 false false).nextCycle = some .commandPacketW) :=
  ⟨⟨rfl, ⟨_, rfl⟩, by decide⟩, ⟨⟨_, rfl⟩, by decide⟩, ⟨⟨_, rfl⟩, by decide⟩, ⟨_, rfl⟩, by decide⟩

/-- A capture of `n` zero bytes, with CDB parsing on. -/
def capState (n : Nat) : State := { plain with cdb := capturing n }

/-- Each row of the transition table: no byte, ten, eleven; parsing off; no capture; a PACKET command. -/
theorem test_hyp_CdbFsmTransitions :
    (∀ n ∈ [0, 10, 11], (capState n).captureOk = true ∧ ∃ t, exec (.dataW 0xFF#8) (capState n) = .next t) ∧
    (({ capState 0 with cfg := 0b0110#4 } : State).captureOk = true ∧
      ∃ t, exec (.dataW 0xFF#8) { capState 0 with cfg := 0b0110#4 } = .next t) ∧
    (plain.captureOk = true ∧ (∃ t, exec (.dataW 0xFF#8) plain = .next t) ∧
      ∃ t, exec .commandPacketW plain = .next t) := by
  refine ⟨?_, ⟨by decide, _, rfl⟩, by decide, ⟨_, rfl⟩, _, rfl⟩
  intro n hn
  simp only [List.mem_cons, List.not_mem_nil, or_false] at hn
  rcases hn with rfl | rfl | rfl <;> exact ⟨by decide, _, rfl⟩

theorem test_hyp_CaptureEndsWithTheTwelfthByte :
    (capState 11).captureOk = true ∧ (∃ t, exec (.dataW 0xFF#8) (capState 11) = .next t) ∧
    (capState 11).cdb.active = true ∧ (capState 11).parseCdb = true ∧ (capState 11).cdb.collected.length = 11 ∧
    part (·.cdb.active) (exec (.dataW 0xFF#8) (capState 10)) = some true := by
  refine ⟨by decide, ⟨_, rfl⟩, rfl, by decide, by decide, by decide⟩

theorem test_hyp_SessionConstantsNeverChange : ∃ t, step cmdState = .next t := ⟨_, rfl⟩

theorem test_hyp_SilentOutcomesChangeNothing :
    ∃ t, step sqState = .next t ∧ t.outcome ≠ some .dispatched ∧ t.outcome ≠ some .restarted :=
  ⟨_, rfl, by decide, by decide⟩

theorem test_hyp_StepAppendsAtMostTwoRecords :
    (ready (capState 11) 0x0005#14 false false).input = [edgeSample 10 0x0005#14 false false] ∧
    ∃ t, step (ready (capState 11) 0x0005#14 false false) = .next t ∧ t.out.length = 2 := ⟨rfl, _, rfl, rfl⟩

/-- A state with one record, of a sample before those to come. -/
def recState : State := { cmdState with out := [record 3 .status (.statusRead .status 0x50#8)] }

theorem test_hyp_NoStepEmitsAWarning :
    (∃ t, step recState = .next t) ∧ ∀ a ∈ recState.out, a.cat ≠ .warning := by
  refine ⟨⟨_, rfl⟩, ?_⟩
  simp [recState, record]

theorem test_hyp_OnlyCommandWritesReadTheBank :
    (∀ op, Instr.dataW 0xFF#8 ≠ .commandW op) ∧ Instr.dataW 0xFF#8 ≠ .commandPacketW ∧
    (∃ t, exec (.dataW 0xFF#8) (capState 11) = .next t) ∧
    (∀ op, Instr.lba0W 0xFF#8 ≠ .commandW op) ∧ Instr.lba0W 0xFF#8 ≠ .commandPacketW ∧
    ∃ t, exec (.lba0W 0xFF#8) hobState = .next t :=
  ⟨fun _ h => Instr.noConfusion h, by decide, ⟨_, rfl⟩, fun _ h => Instr.noConfusion h, by decide, _, rfl⟩

/-- Two samples that differ in a channel the block never reads. -/
theorem test_hyp_UnreadChannelsHaveNoEffect :
    agreeOnReadChannels cmdSample { cmdSample with reset := true, d8 := true } ∧
    cmdSample ≠ { cmdSample with reset := true, d8 := true } ∧ squelched cmdState cmdSample = false ∧
    strobe cmdState cmdSample = some (some true) :=
  ⟨⟨rfl, by decide⟩, by decide, by decide, by decide⟩

theorem test_hyp_ResetValues : ∃ s, instantiate { wired := mandatoryChannels } = .next s := ⟨_, rfl⟩

theorem test_hyp_ResetSequenceAdmitsAndLatches :
    (∃ ch ∈ mandatoryChannels, ch ∉ mandatoryChannels.filter (· ≠ .da2)) ∧
    (∀ ch ∈ mandatoryChannels, ch ∈ Channel.dmarq :: mandatoryChannels) := by
  refine ⟨⟨.da2, ?_, ?_⟩, ?_⟩ <;> decide

/-- The invariant holds of a state in which a step runs. -/
theorem test_hyp_StepKeepsTheInvariant : recState.Inv ∧ ∃ t, step recState = .next t := by
  refine ⟨⟨by decide, ?_, ?_, rfl⟩, _, rfl⟩
  · intro a ha
    simp only [recState, List.mem_singleton] at ha
    subst ha
    exact ⟨rfl, le_annEnd 3, by decide⟩
  · simp [State.portsOrdered, recState, cmdState, ready, record, edgeSample, Sample.ofWord]

/-- V-TF-10: the squelched DEVCTL_W leaves the latch, and the write after it goes to the high-order register. -/
theorem test_hyp_HobRedirectionOverSequences :
    hobAfter true false [⟨10, 0x2033#14, false, false⟩, ⟨20, 0x0033#14, true, false⟩] = true ∧
    ((session 0b0111#4 false true).squelchDma && (session 0b0111#4 false true).pres.dmarq &&
      (⟨30, 0x015D#14, false, false⟩ : BusCycle).dmarq) = false := by decide

theorem test_hyp_CdbCaptureOverSequences :
    plain.parseCdb = true ∧ (⟨10, 0x283D#14, false, false⟩ : BusCycle).word = 0x283D#14 ∧
    (List.replicate 12 (⟨20, 0x0005#14, false, false⟩ : BusCycle)).length = 12 ∧
    (∀ c ∈ List.replicate 12 (⟨20, 0x0005#14, false, false⟩ : BusCycle),
      decodeWord c.word = .dataW (dOf c.word) ∧ c.dmarq = false) := by
  refine ⟨by decide, rfl, rfl, ?_⟩
  intro c hc
  rw [List.eq_of_mem_replicate hc]
  decide

theorem test_hyp_CaptureWithoutParsingNeverEnds :
    ({ capState 0 with cfg := 0b0110#4 } : State).parseCdb = false ∧
    ({ capState 0 with cfg := 0b0110#4 } : State).cdb.active = true ∧
    Instr.commandPacketW ∈ [Instr.dataW 1#8, .commandPacketW] ∧ Instr.commandPacketW ∉ [Instr.dataW 1#8] := by
  refine ⟨by decide, rfl, by decide, by decide⟩

theorem test_hyp_StaleHobBytesStayExtended :
    plain.hobActive = false ∧ ∀ d, Instr.devctlW d ∉ [Instr.seccntW 0xFF#8, .lba0W 0x10#8, .commandW 0x20#8] := by
  refine ⟨rfl, ?_⟩
  simp

theorem test_hyp_AnySampleStreamIsConsumed : samplesOf [⟨10, 0x083D#14, false, false⟩] ≠ [] := by decide

end Sys2Proof.Tests
end

section
/-! What every cycle and every step leave unchanged and how many records they append, and from that the fate of a
stream of samples (R13, R15, R220, R243). -/

namespace Sys2Proof.Machine

/-- `t` keeps what no cycle writes in `s` (the session constants, the edge detector, the input port), and its output
is that of `s` with at most `n` records of the cycle whose snapshot `s` holds, none of them a warning (R238). -/
structure CycleFrame (s t : State) (n : Nat) : Prop where
  cfg : t.cfg = s.cfg
  pres : t.pres = s.pres
  tables : t.tables = s.tables
  simulStrobe : t.simulStrobe = s.simulStrobe
  ed : t.ed = s.ed
  input : t.input = s.input
  out : ∃ rs, t.out = s.out ++ rs ∧ rs.length ≤ n ∧ ∀ a ∈ rs, ∃ c p, c ≠ .warning ∧ a = record s.snap.idx c p

section
variable {s t : State} {n : Nat}

theorem CycleFrame.refl (s : State) : CycleFrame s s 0 :=
  ⟨rfl, rfl, rfl, rfl, rfl, rfl, [], by simp⟩

theorem CycleFrame.mono {m : Nat} (h : CycleFrame s t n) (hnm : n ≤ m) : CycleFrame s t m :=
  { h with out := let ⟨rs, ho, hl, hr⟩ := h.out; ⟨rs, ho, hl.trans hnm, hr⟩ }

theorem CycleFrame.withOutcome (h : CycleFrame s t n) (c : OutcomeCode) : CycleFrame s (t.withOutcome c) n :=
  { h with }

theorem CycleFrame.setField (h : CycleFrame s t n) (f : TfField) (v : Byte) : CycleFrame s (t.setField f v) n :=
  { h with }

theorem CycleFrame.setHob (h : CycleFrame s t n) (d : Byte) : CycleFrame s (t.setHob d) n :=
  { h with }

theorem CycleFrame.startCapture (h : CycleFrame s t n) : CycleFrame s t.startCapture n :=
  { h with }

theorem CycleFrame.collect (h : CycleFrame s t n) (d : Byte) : CycleFrame s (t.collect d) n :=
  { h with }

theorem CycleFrame.endCapture (h : CycleFrame s t n) : CycleFrame s t.endCapture n :=
  { h with }

theorem CycleFrame.release (h : CycleFrame s t n) : CycleFrame s t.release n :=
  { h with }

/-- One more record, of the same cycle: the snapshot is still the one the cycle began with (R103, R221). -/
theorem CycleFrame.emit (h : CycleFrame s t n) {c : Category} (hc : c ≠ .warning) (p : Payload)
    (hsnap : t.snap = s.snap) : CycleFrame s (t.emit c p) (n + 1) :=
  { h with
    out := by
      obtain ⟨rs, ho, hl, hr⟩ := h.out
      refine ⟨rs ++ [record s.snap.idx c p], by simp [ho, hsnap], by simpa using hl, fun a ha => ?_⟩
      rcases List.mem_append.1 ha with ha | ha
      · exact hr a ha
      · exact ⟨c, p, hc, List.mem_singleton.1 ha⟩ }

theorem CycleFrame.intrqCheck (h : CycleFrame s t n) (hsnap : t.snap = s.snap) :
    CycleFrame s t.intrqCheck (n + 1) := by
  unfold State.intrqCheck
  split
  · exact h.emit (by decide) _ hsnap
  · exact h.mono (Nat.le_succ n)

end

/-- A cycle's meaning started in `s` answers `r`: a next state, in the frame of a cycle, with at most the two records
of R220. -/
def CycleAnswers (s : State) (r : Host.Outcome State Fault Refusal) : Prop :=
  ∃ t, r = .next t ∧ CycleFrame s t 2

theorem finish_cycleAnswers {s t : State} {n : Nat} (h : CycleFrame s t n) (hn : n ≤ 2) (c : OutcomeCode) :
    CycleAnswers s (finish c t) :=
  ⟨_, finish_eq t c, (h.mono hn).withOutcome c⟩

theorem discard_cycleAnswers (s : State) (c : OutcomeCode) : CycleAnswers s (discard c s) :=
  finish_cycleAnswers (.refl s) (by decide) c

/-- The shape of most arms: updates that keep the frame, one record, the end of the cycle. -/
theorem finish_emit_cycleAnswers {s t : State} (h : CycleFrame s t 0) (hsnap : t.snap = s.snap) {c : Category}
    (hc : c ≠ .warning) (p : Payload) (o : OutcomeCode) : CycleAnswers s (finish o (t.emit c p)) :=
  finish_cycleAnswers (h.emit hc p hsnap) (by decide) o

theorem paramWrite_cycleAnswers (s : State) (lo hi : TfField) (d : Byte) : CycleAnswers s (paramWrite lo hi d s) :=
  finish_emit_cycleAnswers ((CycleFrame.refl s).setField _ d) rfl (by decide) _ _

theorem readRecord_not_warning (reg : RegId) (d : Byte) : (readRecord reg d).1 ≠ .warning := by
  unfold readRecord
  split <;> simp

theorem readArm_cycleAnswers (s : State) (reg : RegId) (d : Byte) : CycleAnswers s (readArm reg d s) :=
  ⟨_, readArm_eq s reg d,
    (((CycleFrame.refl s).emit (readRecord_not_warning reg d) _ rfl).intrqCheck rfl).withOutcome _⟩

theorem optionalRead_cycleAnswers (s : State) (reg : RegId) (d : Byte) :
    CycleAnswers s (optionalRead reg d s) := by
  unfold optionalRead
  split
  · exact readArm_cycleAnswers s reg d
  · exact discard_cycleAnswers s _

/-- The last byte of a capture brings two records, every other byte one (R194). -/
theorem collectByte_cycleAnswers (s : State) (d : Byte) : CycleAnswers s (collectByte d s) := by
  have hbyte (p : Payload) : CycleFrame s ((s.collect d).emit .cdb p) 1 :=
    ((CycleFrame.refl s).collect d).emit (by decide) p rfl
  unfold collectByte
  dsimp only
  generalize (if s.cdb.collected.length = 0 then some (resolveCdb s.tables d) else none) = name
  split
  · exact finish_cycleAnswers ((hbyte _).endCapture.emit (c := .cdb) (by decide) _ rfl) le_rfl _
  · exact finish_cycleAnswers (hbyte _) (by decide) _

theorem execDataW_cycleAnswers (s : State) (d : Byte) : CycleAnswers s (execDataW d s) := by
  unfold execDataW
  split
  · split
    · exact collectByte_cycleAnswers s d
    · exact finish_emit_cycleAnswers (.refl s) rfl (by decide) _ _
  · split
    · exact discard_cycleAnswers s _
    · exact finish_emit_cycleAnswers (.refl s) rfl (by decide) _ _

theorem execDataR_cycleAnswers (s : State) (d : Byte) : CycleAnswers s (execDataR d s) := by
  unfold execDataR
  split
  · exact readArm_cycleAnswers s .data d
  · split
    · exact discard_cycleAnswers s _
    · exact finish_emit_cycleAnswers (.refl s) rfl (by decide) _ _

/-- Every meaning answers a next state, in the frame of a cycle (R243). -/
theorem exec_cycleAnswers (i : Instr) (s : State) : CycleAnswers s (exec i s) := by
  cases i with
  | dataW d => exact execDataW_cycleAnswers s d
  | featuresW d | seccntW d | lba0W d | lba1W d | lba2W d => exact paramWrite_cycleAnswers s _ _ d
  | deviceW d => exact finish_emit_cycleAnswers ((CycleFrame.refl s).setField _ d) rfl (by decide) _ _
  | commandW op => exact finish_emit_cycleAnswers (.refl s) rfl (by decide) _ _
  | commandPacketW => exact finish_emit_cycleAnswers (CycleFrame.refl s).startCapture rfl (by decide) _ _
  | dataR d => exact execDataR_cycleAnswers s d
  | errorR d | seccntR d | lba0R d | lba1R d | lba2R d | deviceR d | drvaddrR d =>
    exact optionalRead_cycleAnswers s _ d
  | statusR d => exact readArm_cycleAnswers s .status d
  | altstatusR d => exact readArm_cycleAnswers s .altStatus d
  | devctlW d => exact finish_emit_cycleAnswers ((CycleFrame.refl s).setHob d) rfl (by decide) _ _
  | drvaddrW | noneCtl03 | noneCtl45 | noneBothSel | noneNoSel => exact discard_cycleAnswers s _

/-- A step with a sample left answers a next state (R243). -/
theorem step_next_of_input {s : State} {x : Sample} {rest : List Sample} (hi : s.input = x :: rest) :
    ∃ t, step s = .next t := by
  unfold step
  rcases fetch_cases s with ⟨hnil, -⟩ | ⟨_, _, -, ⟨-, hf⟩ | ⟨-, hf⟩ | ⟨_, -, ⟨-, hf⟩ | ⟨-, hf⟩⟩⟩
  · cases hi.symm.trans hnil
  iterate 3 exact ⟨_, by rw [hf]⟩
  · rw [hf]
    obtain ⟨u, hu, -⟩ := exec_cycleAnswers _ _
    exact ⟨_, (endCycle_next _ _).2 ⟨u, hu, rfl⟩⟩

/-- What every step keeps and appends: it consumes its sample, and the rest is the frame of the cycle it ran, or of
no cycle (R100). -/
theorem step_cycleFrame {s t : State} {x : Sample} {rest : List Sample} (hi : s.input = x :: rest)
    (h : step s = .next t) : CycleFrame ((s.consume x rest).latch x) t 2 := by
  have hquiet (c : OutcomeCode) : CycleFrame ((s.consume x rest).latch x) ((s.consume x rest).withOutcome c) 2 :=
    ⟨rfl, rfl, rfl, rfl, rfl, rfl, [], by simp⟩
  obtain ⟨x', rest', hi', hcases⟩ := step_cases s t h
  obtain ⟨rfl, rfl⟩ := List.cons.inj (hi.symm.trans hi')
  rcases hcases with ⟨-, rfl⟩ | ⟨-, rfl⟩ | ⟨wr, -, ⟨-, rfl⟩ | ⟨-, u, hu, rfl⟩⟩
  iterate 3 exact hquiet _
  · obtain ⟨t', ht', hframe⟩ := exec_cycleAnswers (decodeWord (cycleWord s.pres x wr)) ((s.consume x rest).latch x)
    cases hu.symm.trans ht'
    exact hframe.release

/-- Delivering one sample: the step consumes it, keeps CFG and PRES, and appends at most two records (R15, R220). -/
theorem step_deliver (s : State) (x : Sample) :
    ∃ t, step { s with input := [x] } = .next t ∧ t.input = [] ∧ t.cfg = s.cfg ∧ t.pres = s.pres ∧
      ∃ rs, t.out = s.out ++ rs ∧ rs.length ≤ 2 := by
  obtain ⟨t, ht⟩ := step_next_of_input (s := { s with input := [x] }) rfl
  have hframe := step_cycleFrame rfl ht
  obtain ⟨rs, hout, hlen, -⟩ := hframe.out
  exact ⟨t, ht, hframe.input, hframe.cfg, hframe.pres, rs, hout, hlen⟩

/-- `AnySampleStreamIsConsumed` in the form its induction needs: an input port that is empty stays empty also where
no sample is delivered. -/
theorem deliver_consumes (xs : List Sample) (s : State) :
    ∃ t, deliver s xs = .next t ∧ (xs ≠ [] ∨ s.input = [] → t.input = []) ∧ t.cfg = s.cfg ∧ t.pres = s.pres ∧
      ∃ rs, t.out = s.out ++ rs ∧ rs.length ≤ 2 * xs.length := by
  induction xs generalizing s with
  | nil => exact ⟨s, rfl, by simp, rfl, rfl, [], by simp⟩
  | cons x xs ih =>
    obtain ⟨t, hstep, htin, htcfg, htpres, rs, htout, hrs⟩ := step_deliver s x
    obtain ⟨u, hdel, huin, hucfg, hupres, rs', huout, hrs'⟩ := ih t
    refine ⟨u, ?_, fun _ => huin (.inr htin), hucfg.trans htcfg, hupres.trans htpres, rs ++ rs', ?_, ?_⟩
    · simpa only [deliver, hstep] using hdel
    · rw [huout, htout, List.append_assoc]
    · simp only [List.length_append, List.length_cons]
      omega

/-- Settles O54, by induction on the samples: each step consumes the one it is given and appends at most two
records. -/
theorem anySampleStreamIsConsumed : Obligations.AnySampleStreamIsConsumed := by
  intro xs s
  obtain ⟨t, hdel, hin, hrest⟩ := deliver_consumes xs s
  exact ⟨t, hdel, fun hne => hin (.inl hne), hrest⟩

end Sys2Proof.Machine
end

section
/-! All that a cycle does, as one equation for `exec`, and all that a step does, by the cycle it runs (R100, R107,
R240). The frames of the state elements below are read off these two. -/

namespace Sys2Proof.Machine

/-- The bank after the entry that R21's table gives for a cycle. -/
def TaskFile.store (t : TaskFile) : Option (TfField × Byte) → TaskFile
  | none => t
  | some (f, d) => t.set f d

/-- What a cycle shows on the output: its outcome code and the payloads of its records, in order. -/
abbrev CycleReport := OutcomeCode × List Payload

/-- The cycle whose snapshot `s` holds ends with a report. -/
def State.reported (s : State) (r : CycleReport) : State :=
  { s with out := s.out ++ r.2.map fun p => record s.snap.idx (payloadCategory p) p
           outcome := some r.1 }

/-- The report of the read arm: the record of the read, then the INTRQ record where INTRQ is wired and low (R164,
R170). -/
def readReport (reg : RegId) (d : Byte) (s : State) : CycleReport :=
  (.dispatched, (readRecord reg d).2 :: if s.pres.intrq && !s.snap.intrq then [.intrqCleared] else [])

/-- The report of a read that only `emit_reads` annotates (R161). -/
def optionalReadReport (reg : RegId) (d : Byte) (s : State) : CycleReport :=
  if s.emitReads then readReport reg d s else (.noArm, [])

/-- The report of a Data access that no other rule takes (R190, R191). -/
def dataRawReport (dir : Dir) (d : Byte) (s : State) : CycleReport :=
  if s.ignoreData then (.ignoredData, []) else (.dispatched, [.dataRaw dir d])

/-- The report of a collected byte: the byte, then on the last one the completion (R190, R194). -/
def collectReport (d : Byte) (s : State) : CycleReport :=
  (.dispatched,
    .cdbByte s.cdb.collected.length d (if s.cdb.collected.length = 0 then some (resolveCdb s.tables d) else none) ::
      if s.cdb.collected.length + 1 = s.cdb.expectedLength then [.cdbComplete (s.cdb.collected ++ [d])] else [])

/-- The report of every cycle (R107). -/
def cycleReport (s : State) : Instr → CycleReport
  | .dataW d =>
    if s.cdb.active then
      if s.parseCdb then collectReport d s else (.dispatched, [.cdbMarker d])
    else dataRawReport .write d s
  | .featuresW d => (.dispatched, [.regWrite (s.hobTarget .features .hobFeatures) d])
  | .seccntW d => (.dispatched, [.regWrite (s.hobTarget .sectorCount .hobSectorCount) d])
  | .lba0W d => (.dispatched, [.regWrite (s.hobTarget .lba0 .hobLba0) d])
  | .lba1W d => (.dispatched, [.regWrite (s.hobTarget .lba1 .hobLba1) d])
  | .lba2W d => (.dispatched, [.regWrite (s.hobTarget .lba2 .hobLba2) d])
  | .deviceW d => (.dispatched, [.regWrite .device d])
  | .commandW op => (.dispatched, [commandPayload s op])
  | .commandPacketW => (if s.cdb.active then .restarted else .dispatched, [commandPayload s Config.packetOpcode])
  | .dataR d => if s.emitReads then readReport .data d s else dataRawReport .read d s
  | .errorR d => optionalReadReport .error d s
  | .seccntR d => optionalReadReport .sectorCount d s
  | .lba0R d => optionalReadReport .lba0 d s
  | .lba1R d => optionalReadReport .lba1 d s
  | .lba2R d => optionalReadReport .lba2 d s
  | .deviceR d => optionalReadReport .device d s
  | .statusR d => readReport .status d s
  | .altstatusR d => readReport .altStatus d s
  | .drvaddrR d => optionalReadReport .driveAddress d s
  | .devctlW d => (.dispatched, [.devCtl d (devctlSrst d) (devctlNien d) (devctlHob d)])
  | .drvaddrW _ => (.noArm, [])
  | .noneCtl03 _ _ _ | .noneCtl45 _ _ _ | .noneBothSel _ _ _ | .noneNoSel _ _ _ => (.unrecognized, [])

/-- The HOB latch after a cycle (R23). -/
def latchAfter (hob : Bool) : Instr → Bool
  | .devctlW d => d.getLsbD 7
  | _ => hob

/-- The capture after a cycle (R192). -/
def captureAfter (s : State) : Instr → CdbCapture
  | .commandPacketW => { active := true, collected := [], expectedLength := 12 }
  | .dataW d =>
    if s.cdb.active && s.parseCdb then
      { s.cdb with
        active := s.cdb.collected.length + 1 != s.cdb.expectedLength
        collected := s.cdb.collected ++ [d] }
    else s.cdb
  | _ => s.cdb

/-- The state a cycle ends in. -/
def State.afterCycle (s : State) (i : Instr) : State :=
  State.reported
    { s with tf := s.tf.store (bankWrite i s.hobActive)
             hobActive := latchAfter s.hobActive i
             cdb := captureAfter s i }
    (cycleReport s i)

/-! ### The meanings are their reports -/

section
variable (s : State)

theorem State.reported_nil (c : OutcomeCode) : s.reported (c, []) = s.withOutcome c := by
  simp [State.reported, State.withOutcome]

theorem State.reported_cons (c : OutcomeCode) (p : Payload) (ps : List Payload) :
    s.reported (c, p :: ps) = (s.emit (payloadCategory p) p).reported (c, ps) := by
  simp [State.reported, State.emit]

theorem State.intrqCheck_withOutcome (c : OutcomeCode) :
    s.intrqCheck.withOutcome c =
      s.reported (c, if s.pres.intrq && !s.snap.intrq then [.intrqCleared] else []) := by
  have hcond : (s.pres.wired .intrq && !level s.pres s.snap .intrq) = (s.pres.intrq && !s.snap.intrq) := by
    cases hp : s.pres.intrq <;> simp [Pres.wired, level, Sample.line, hp]
  unfold State.intrqCheck
  rw [hcond]
  split
  · rfl
  · exact (s.reported_nil c).symm

/-- The category the read arm emits its record with is the payload's. -/
theorem payloadCategory_readRecord (reg : RegId) (d : Byte) :
    payloadCategory (readRecord reg d).2 = (readRecord reg d).1 := by
  unfold readRecord
  split <;> rfl

theorem readArm_reported (reg : RegId) (d : Byte) : readArm reg d s = .next (s.reported (readReport reg d s)) := by
  rw [readArm_eq, State.intrqCheck_withOutcome, ← payloadCategory_readRecord, readReport, State.reported_cons]
  rfl

theorem optionalRead_reported (reg : RegId) (d : Byte) :
    optionalRead reg d s = .next (s.reported (optionalReadReport reg d s)) := by
  rw [optionalRead_eq, optionalReadReport]
  split
  · exact readArm_reported s reg d
  · rw [State.reported_nil]

/-- The branches that Data writes and Data reads share (R190, R191). -/
theorem dataRaw_reported (dir : Dir) (d : Byte) :
    (if s.ignoreData then discard .ignoredData s
      else finish .dispatched (s.emit (payloadCategory (.dataRaw dir d)) (.dataRaw dir d))) =
      .next (s.reported (dataRawReport dir d s)) := by
  unfold dataRawReport
  split
  · rw [State.reported_nil, discard_eq]
  · rw [State.reported_cons, State.reported_nil, finish_eq]

theorem execDataR_reported (d : Byte) : execDataR d s = .next (s.reported (cycleReport s (.dataR d))) := by
  unfold execDataR cycleReport
  split
  · exact readArm_reported s .data d
  · exact dataRaw_reported s .read d

/-- Collecting, on the last byte of the capture and before it (R194). -/
theorem collectByte_afterCycle (d : Byte) (hactive : s.cdb.active = true) (hparse : s.parseCdb = true) :
    collectByte d s = .next (s.afterCycle (.dataW d)) := by
  rw [collectByte_eq]
  by_cases hlast : s.cdb.collected.length + 1 = s.cdb.expectedLength <;>
    simp [State.afterCycle, State.reported, cycleReport, collectReport, captureAfter, latchAfter, bankWrite,
      TaskFile.store, payloadCategory, State.collect, State.emit, State.endCapture, State.withOutcome, hactive, hparse,
      hlast]

/-- Only collecting changes the capture; a Data write that does not collect is its report alone (R190). -/
theorem execDataW_afterCycle (d : Byte) : execDataW d s = .next (s.afterCycle (.dataW d)) := by
  have hkeep (h : (s.cdb.active && s.parseCdb) = false) :
      s.afterCycle (.dataW d) = s.reported (cycleReport s (.dataW d)) := by
    simp [State.afterCycle, captureAfter, latchAfter, bankWrite, TaskFile.store, h]
  unfold execDataW
  by_cases hactive : s.cdb.active = true <;> by_cases hparse : s.parseCdb = true
  · rw [if_pos hactive, if_pos hparse, collectByte_afterCycle s d hactive hparse]
  · rw [if_pos hactive, if_neg hparse, hkeep (by simp [hparse]), cycleReport, if_pos hactive, if_neg hparse]
    rfl
  all_goals
    rw [if_neg hactive, hkeep (by simp [hactive]), cycleReport, if_neg hactive]
    exact dataRaw_reported s .write d

/-- What every cycle does (R107): the meanings of the twenty-five classes, as one equation. -/
theorem exec_eq (i : Instr) : exec i s = .next (s.afterCycle i) := by
  cases i with
  | dataW d => exact execDataW_afterCycle s d
  | featuresW | seccntW | lba0W | lba1W | lba2W | deviceW | commandW | commandPacketW | devctlW => rfl
  | dataR d => exact execDataR_reported s d
  | errorR d | seccntR d | lba0R d | lba1R d | lba2R d | deviceR d | drvaddrR d => exact optionalRead_reported s _ d
  | statusR d => exact readArm_reported s .status d
  | altstatusR d => exact readArm_reported s .altStatus d
  | drvaddrW | noneCtl03 | noneCtl45 | noneBothSel | noneNoSel =>
    exact congrArg Host.Outcome.next (State.reported_nil s _).symm

end

end Sys2Proof.Machine
end

section
/-! The frames of the state elements (10_state.md): what a cycle writes into each, and what a step that runs no cycle
leaves. -/

namespace Sys2Proof.Machine

section
variable {s t : State}

@[simp] theorem State.afterCycle_tf (i : Instr) : (s.afterCycle i).tf = s.tf.store (bankWrite i s.hobActive) := rfl

@[simp] theorem State.afterCycle_hobActive (i : Instr) : (s.afterCycle i).hobActive = latchAfter s.hobActive i := rfl

@[simp] theorem State.afterCycle_cdb (i : Instr) : (s.afterCycle i).cdb = captureAfter s i := rfl

@[simp] theorem State.afterCycle_parseCdb (i : Instr) : (s.afterCycle i).parseCdb = s.parseCdb := rfl

@[simp] theorem State.afterCycle_out (i : Instr) : (s.afterCycle i).out =
    s.out ++ (cycleReport s i).2.map fun p => record s.snap.idx (payloadCategory p) p := rfl

/-- What a meaning answers, if it answers a next state, is the state after its cycle. -/
theorem eq_afterCycle {i : Instr} (h : exec i s = .next t) : t = s.afterCycle i :=
  (Host.Outcome.next.inj ((exec_eq s i).symm.trans h)).symm

/-- What every step does: it consumes a sample, and then runs no cycle or the one that `nextCycle` tells (R100). -/
theorem step_runs_nextCycle (h : step s = .next t) :
    ∃ x rest, s.input = x :: rest ∧
      ((s.nextCycle = none ∧ ∃ c, t = (s.consume x rest).withOutcome c) ∨
       ∃ i, s.nextCycle = some i ∧ t = (((s.consume x rest).latch x).afterCycle i).release) := by
  obtain ⟨x, rest, hi, ⟨hs, rfl⟩ | ⟨hs, rfl⟩ | ⟨wr, hs, ⟨hq, rfl⟩ | ⟨hq, u, hu, rfl⟩⟩⟩ := step_cases s t h
  · exact ⟨x, rest, hi, .inl ⟨by simp [State.nextCycle, hi, hs], _, rfl⟩⟩
  · exact ⟨x, rest, hi, .inl ⟨by simp [State.nextCycle, hi, hs], _, rfl⟩⟩
  · exact ⟨x, rest, hi, .inl ⟨by simp [State.nextCycle, hi, hs, hq], _, rfl⟩⟩
  · exact ⟨x, rest, hi, .inr ⟨decodeWord (cycleWord s.pres x wr), by simp [State.nextCycle, hi, hs, hq],
      congrArg State.release (eq_afterCycle hu)⟩⟩

end

/-- Settles O34: the bank after a cycle is read off `exec_eq`, and consuming a sample leaves the bank. -/
theorem bankWrittenOnlyByItsTable : Obligations.BankWrittenOnlyByItsTable := by
  refine ⟨fun i s t h => ?_, fun s t h hnone => ?_⟩
  · rw [eq_afterCycle h, State.afterCycle_tf]
    rfl
  · obtain ⟨x, rest, -, ⟨-, c, rfl⟩ | ⟨i, hsome, -⟩⟩ := step_runs_nextCycle h
    · rfl
    · cases hnone.symm.trans hsome

/-- Settles O35: the latch after a cycle is `latchAfter`, and a step that runs none leaves it. -/
theorem hobLatchWrittenOnlyByDevctl : Obligations.HobLatchWrittenOnlyByDevctl := by
  intro s t h
  obtain ⟨x, rest, -, ⟨hnone, c, rfl⟩ | ⟨i, hsome, rfl⟩⟩ := step_runs_nextCycle h
  · rw [hnone]
    rfl
  · rw [hsome, State.release_hobActive, State.afterCycle_hobActive]
    cases i <;> rfl

/-- Settles O39: the session constants are part of the frame of every step. -/
theorem sessionConstantsNeverChange : Obligations.SessionConstantsNeverChange := by
  intro s t h
  obtain ⟨x, rest, hi, -⟩ := step_cases s t h
  have hframe := step_cycleFrame hi h
  exact ⟨hframe.cfg, hframe.pres, hframe.tables, hframe.simulStrobe⟩

/-! ### Reads and commands -/

/-- A read writes no state element (R35). -/
theorem afterCycle_of_isRead (s : State) {i : Instr} (h : isRead i = true) : s.afterCycle i = s.reported (cycleReport s i) := by
  cases i with
  | dataR | errorR | seccntR | lba0R | lba1R | lba2R | deviceR | statusR | altstatusR | drvaddrR => rfl
  | _ => cases h

/-- The strobes are mandatory channels, so the edge detector keeps their lines as they are (R31). -/
theorem edgeAfter_eq (p : Pres) (x : Sample) :
    edgeAfter p x = { prevDiow := x.diow, prevDior := x.dior, havePrev := true } := by
  simp [edgeAfter, level, Pres.wired, Sample.line]

/-- Settles O36: the state after a read or a Command write is the state before with its report, and a step adds the
consumed sample's strobe levels and blanks the snapshot. -/
theorem readsAndCommandsStoreNothing : Obligations.ReadsAndCommandsStoreNothing := by
  refine ⟨fun i s t hread h => ?_, fun op s t h => ?_, fun s t h => ?_, fun s t x rest hi h => ?_⟩
  · rw [eq_afterCycle h, afterCycle_of_isRead s hread]
    rfl
  · rw [eq_afterCycle h]
    rfl
  · rw [eq_afterCycle h]
    rfl
  obtain ⟨x', rest', hi', hstep⟩ := step_runs_nextCycle h
  obtain ⟨rfl, rfl⟩ := List.cons.inj (hi.symm.trans hi')
  rw [← edgeAfter_eq s.pres x]
  obtain ⟨hnone, c, rfl⟩ | ⟨i, hsome, rfl⟩ := hstep
  · simp only [hnone]
    exact ⟨fun _ => rfl, nofun, nofun, nofun⟩
  · simp only [hsome, Option.some.injEq, forall_eq']
    refine ⟨nofun, rfl, ?_, ?_⟩
    · rintro (hread | ⟨op, rfl⟩)
      · rw [afterCycle_of_isRead _ hread]
        rfl
      · rfl
    · rintro rfl
      rfl

/-! ### The bank as an input -/

/-- Only the Command record shows the bank (R22). -/
theorem cycleReport_bank (s : State) (u : TaskFile) {i : Instr} (hcmd : ∀ op, i ≠ .commandW op)
    (hpacket : i ≠ .commandPacketW) : cycleReport { s with tf := u } i = cycleReport s i := by
  cases i with
  | commandW op => exact absurd rfl (hcmd op)
  | commandPacketW => exact absurd rfl hpacket
  | _ => rfl

theorem captureAfter_bank (s : State) (u : TaskFile) (i : Instr) :
    captureAfter { s with tf := u } i = captureAfter s i := by
  cases i <;> rfl

/-- Settles O43: of all that `exec_eq` gives a cycle, only a Command write's report depends on the bank. -/
theorem onlyCommandWritesReadTheBank : Obligations.OnlyCommandWritesReadTheBank := by
  intro i s t u hcmd hpacket h
  rw [eq_afterCycle h, exec_eq]
  unfold State.afterCycle
  rw [cycleReport_bank s u hcmd hpacket, captureAfter_bank s u i]
  rfl

end Sys2Proof.Machine
end

section
/-! The invariant (Safety): every cycle keeps the capture well-formed and reports payloads in range, and every step
keeps the ports in order. -/

namespace Sys2Proof.Machine

/-! ### Derived addressing stays in range (R183) -/

theorem deriveAddressing_mode (t : TaskFile) :
    (deriveAddressing t).mode = if t.device.getLsbD 6 then .lba else .chs := by
  unfold deriveAddressing
  split <;> rfl

/-- A byte of at most `m` bits shifted left by `k` takes `m + k` bits. -/
theorem toNat_byteShift_lt {b : Byte} {m : Nat} (k : Nat) (hb : b.toNat < 2 ^ m) :
    (b.setWidth 48 <<< k).toNat < 2 ^ (m + k) := by
  rw [BitVec.toNat_shiftLeft, BitVec.toNat_setWidth, Nat.shiftLeft_eq, pow_add]
  calc b.toNat % 2 ^ 48 * 2 ^ k % 2 ^ 48
      ≤ b.toNat * 2 ^ k := (Nat.mod_le _ _).trans (Nat.mul_le_mul_right _ (Nat.mod_le _ _))
    _ < 2 ^ m * 2 ^ k := Nat.mul_lt_mul_of_pos_right hb (by positivity)

theorem lba28_toNat_lt (t : TaskFile) : (lba28 t).toNat < 2 ^ 28 := by
  have hhead : (t.device &&& Config.devHeadMask).toNat < 2 ^ 4 := by
    rw [BitVec.toNat_and]
    exact Nat.lt_of_le_of_lt Nat.and_le_right (by decide)
  have hbyte (b : Byte) {k : Nat} (hk : k ≤ 20) : (b.setWidth 48 <<< k).toNat < 2 ^ 28 :=
    (toNat_byteShift_lt k b.isLt).trans_le (Nat.pow_le_pow_right (by decide) (by omega))
  unfold lba28
  simp only [BitVec.toNat_or]
  refine Nat.or_lt_two_pow (Nat.or_lt_two_pow (Nat.or_lt_two_pow ?_ ?_) ?_) ?_
  · exact toNat_byteShift_lt 24 hhead
  · exact hbyte t.lba2 (by decide)
  · exact hbyte t.lba1 (by decide)
  · simpa using hbyte t.lba0 (Nat.zero_le 20)

/-- Without the extension the sector count takes 8 bits and the LBA 28 (R183). -/
theorem deriveAddressing_plain_bounds {t : TaskFile} (h : (deriveAddressing t).ext = false) :
    (deriveAddressing t).sc.toNat < 2 ^ 8 ∧ (deriveAddressing t).lba.toNat < 2 ^ 28 := by
  unfold deriveAddressing at h ⊢
  split at h
  · cases h
  · rw [if_neg ‹_›]
    refine ⟨?_, lba28_toNat_lt t⟩
    rw [BitVec.toNat_setWidth]
    exact (Nat.mod_le _ _).trans_lt t.sectorCount.isLt

/-! ### The payloads a cycle reports are in range -/

theorem commandPayload_ok (s : State) (op : Byte) : payloadOk (commandPayload s op) = true := by
  have hrange : (deriveAddressing s.tf).ext = true ∨
      (deriveAddressing s.tf).sc.toNat < 2 ^ 8 ∧ (deriveAddressing s.tf).lba.toNat < 2 ^ 28 := by
    cases hext : (deriveAddressing s.tf).ext with
    | true => exact .inl rfl
    | false => exact .inr (deriveAddressing_plain_bounds hext)
  simpa [commandPayload, payloadOk, deriveAddressing_mode] using hrange

/-- All payloads of a report are in range. -/
def CycleReport.Ok (r : CycleReport) : Prop := ∀ p ∈ r.2, payloadOk p = true

@[simp] theorem CycleReport.ok_nil (c : OutcomeCode) : CycleReport.Ok (c, []) := nofun

@[simp] theorem CycleReport.ok_cons (c : OutcomeCode) (p : Payload) (ps : List Payload) :
    CycleReport.Ok (c, p :: ps) ↔ payloadOk p = true ∧ CycleReport.Ok (c, ps) := by
  simp [CycleReport.Ok]

/-- The capture is well-formed, read as R24, R25 and R195 say it. -/
theorem State.captureOk_iff (s : State) : s.captureOk = true ↔ s.cdb.expectedLength = 12 ∧
    (s.cdb.active = true → s.cdb.collected.length < 12 ∧ (s.parseCdb = true ∨ s.cdb.collected = [])) := by
  cases hactive : s.cdb.active <;> simp [State.captureOk, hactive]

section
variable {s : State}

theorem readReport_ok {reg : RegId} {d : Byte} (hreg : payloadOk (readRecord reg d).2 = true) :
    CycleReport.Ok (readReport reg d s) := by
  rw [readReport, CycleReport.ok_cons]
  refine ⟨hreg, ?_⟩
  split <;> simp [payloadOk]

theorem optionalReadReport_ok {reg : RegId} {d : Byte} (hreg : payloadOk (readRecord reg d).2 = true) :
    CycleReport.Ok (optionalReadReport reg d s) := by
  unfold optionalReadReport
  split
  · exact readReport_ok hreg
  · exact CycleReport.ok_nil _

theorem dataRawReport_ok (dir : Dir) (d : Byte) : CycleReport.Ok (dataRawReport dir d s) := by
  unfold dataRawReport
  split <;> simp [payloadOk]

/-- A collected byte has an index below 12, and the completion record has twelve bytes (R230, R231). -/
theorem collectReport_ok (hcap : s.captureOk = true) (hactive : s.cdb.active = true) (d : Byte) :
    CycleReport.Ok (collectReport d s) := by
  obtain ⟨hlen, hfill⟩ := s.captureOk_iff.1 hcap
  have hname : payloadOk (.cdbByte s.cdb.collected.length d
      (if s.cdb.collected.length = 0 then some (resolveCdb s.tables d) else none)) = true := by
    by_cases hz : s.cdb.collected.length = 0 <;> simp [payloadOk, hz, (hfill hactive).1]
  rw [collectReport, CycleReport.ok_cons]
  refine ⟨hname, ?_⟩
  split
  · next hlast => simp [payloadOk, hlast, hlen]
  · exact CycleReport.ok_nil _

theorem cycleReport_ok (hcap : s.captureOk = true) (i : Instr) : CycleReport.Ok (cycleReport s i) := by
  cases i with
  | dataW d =>
    rw [cycleReport]
    split
    · next hactive =>
      split
      · exact collectReport_ok hcap hactive d
      · simp [payloadOk]
    · exact dataRawReport_ok .write d
  | dataR d =>
    rw [cycleReport]
    split
    · exact readReport_ok rfl
    · exact dataRawReport_ok .read d
  | featuresW | seccntW | lba0W | lba1W | lba2W | deviceW => simp [cycleReport, payloadOk]
  | commandW | commandPacketW => simp [cycleReport, commandPayload_ok]
  | devctlW d => simp [cycleReport, payloadOk, devctlSrst, devctlNien, devctlHob, Config.srstBit, Config.nienBit,
      Config.hobBit]
  | errorR | seccntR | lba0R | lba1R | lba2R | deviceR | drvaddrR => exact optionalReadReport_ok rfl
  | statusR | altstatusR => exact readReport_ok rfl
  | drvaddrW | noneCtl03 | noneCtl45 | noneBothSel | noneNoSel => exact CycleReport.ok_nil _

/-- A record of a payload in range, with the payload's category, is well-formed (R223). -/
theorem record_ok {ss : Nat} {p : Payload} (hp : payloadOk p = true) : Ann.ok (record ss (payloadCategory p) p) :=
  ⟨rfl, le_annEnd ss, hp⟩

/-! ### The three parts of the invariant -/

/-- A cycle keeps the capture well-formed: the byte that would be the twelfth of an active capture ends it (R194). -/
theorem captureOk_afterCycle (hcap : s.captureOk = true) (i : Instr) : (s.afterCycle i).captureOk = true := by
  cases i with
  | commandPacketW => simp [State.captureOk_iff, captureAfter]
  | dataW d =>
    rw [State.captureOk_iff] at hcap ⊢
    rw [State.afterCycle_cdb, State.afterCycle_parseCdb, captureAfter]
    split
    · next hcollects =>
      obtain ⟨hactive, hparse⟩ := Bool.and_eq_true_iff.1 hcollects
      obtain ⟨hlen, hfill⟩ := hcap
      have hroom := (hfill hactive).1
      simp only [hlen, hparse, List.length_append, List.length_singleton, bne_iff_ne, true_or, and_true, true_and]
      omega
    · exact hcap
  | _ => exact hcap

theorem records_afterCycle (hcap : s.captureOk = true) (hrec : ∀ a ∈ s.out, Ann.ok a) (i : Instr) :
    ∀ a ∈ (s.afterCycle i).out, Ann.ok a := by
  intro a ha
  rw [State.afterCycle_out, List.mem_append, List.mem_map] at ha
  obtain hold | ⟨p, hp, rfl⟩ := ha
  · exact hrec a hold
  · exact record_ok (cycleReport_ok hcap i p hp)

/-- A step takes the first sample and appends records that start there, so the ports stay in order (R113, R220). -/
theorem portsOrdered_step {t : State} (hord : s.portsOrdered) (h : step s = .next t) : t.portsOrdered := by
  obtain ⟨x, rest, hi, -⟩ := step_cases s t h
  have hframe := step_cycleFrame hi h
  obtain ⟨rs, hout, -, hrs⟩ := hframe.out
  have hstart : ∀ a ∈ rs, a.ss = x.idx := by
    intro a ha
    obtain ⟨c, p, -, rfl⟩ := hrs a ha
    rfl
  have hin : t.input = rest := hframe.input
  replace hout : t.out = s.out ++ rs := hout
  obtain ⟨hrise, hfall, holder⟩ := hord
  rw [hi] at hrise holder
  obtain ⟨hfirst, hrest⟩ := List.pairwise_cons.1 hrise
  unfold State.portsOrdered
  rw [hin, hout]
  refine ⟨hrest, List.pairwise_append.2 ⟨hfall, ?_, fun a ha b hb => ?_⟩, fun a ha y hy => ?_⟩
  · exact List.pairwise_of_forall_mem_list fun a ha b hb => by rw [hstart a ha, hstart b hb]
  · rw [hstart b hb]
    exact (holder a ha x List.mem_cons_self).le
  · rcases List.mem_append.1 ha with hold | hnew
    · exact holder a hold y (List.mem_cons_of_mem x hy)
    · rw [hstart a hnew]
      exact hfirst y hy

end

/-- Settles O48: a step that runs no cycle leaves capture, records and snapshot, a cycle keeps the first two and its
end blanks the third, and either way the ports stay in order. -/
theorem stepKeepsTheInvariant : Obligations.StepKeepsTheInvariant := by
  intro s t hinv h
  have hord := portsOrdered_step hinv.ordered h
  obtain ⟨x, rest, -, ⟨-, c, rfl⟩ | ⟨i, -, rfl⟩⟩ := step_runs_nextCycle h
  · exact ⟨hinv.capture, hinv.records, hord, hinv.idle⟩
  · have hcap : ((s.consume x rest).latch x).captureOk = true := hinv.capture
    exact ⟨captureOk_afterCycle hcap i, records_afterCycle hcap hinv.records i, hord, rfl⟩

end Sys2Proof.Machine
end

section
/-! The reset sequence (R30, R31, R37, R260). -/

namespace Sys2Proof.Machine

/-- The session a request is admitted to. -/
def SessionRequest.session (r : SessionRequest) : State :=
  { State.reset with cfg := cfgOf r, pres := presOf r.wired, tables := r.tables, simulStrobe := r.simulStrobe }

/-- The reset sequence refuses with a mandatory channel that is not wired, or admits with all of them wired (R31). -/
theorem instantiate_cases (r : SessionRequest) :
    (∃ ch ∈ mandatoryChannels, ch ∉ r.wired ∧ instantiate r = .refused (.mandatoryChannelUnwired ch)) ∨
    ((∀ ch ∈ mandatoryChannels, ch ∈ r.wired) ∧ instantiate r = .next r.session) := by
  unfold instantiate
  cases hfind : mandatoryChannels.find? fun c => !decide (c ∈ r.wired) with
  | some ch => exact .inl ⟨ch, List.mem_of_find?_eq_some hfind, by simpa using List.find?_some hfind, rfl⟩
  | none => exact .inr ⟨by simpa using hfind, rfl⟩

/-- The presence table answers the wiring, where the mandatory channels are wired (R31). -/
theorem presOf_wired {wired : List Channel} (hall : ∀ ch ∈ mandatoryChannels, ch ∈ wired) (ch : Channel) :
    (presOf wired).wired ch = true ↔ ch ∈ wired := by
  by_cases hm : ch ∈ mandatoryChannels
  · have htrue : (presOf wired).wired ch = true := by
      revert hm
      cases ch <;> simp [mandatoryChannels, Pres.wired]
    exact iff_of_true htrue (hall ch hm)
  · revert hm
    cases ch <;> simp [mandatoryChannels, Pres.wired, presOf]

/-- The options of a session, bit by bit of CFG (R30). -/
theorem session_options (r : SessionRequest) :
    r.session.parseCdb = r.parseCdb.getD true ∧ r.session.ignoreData = r.ignoreData.getD true ∧
    r.session.squelchDma = r.squelchDma.getD true ∧ r.session.emitReads = r.emitReads.getD false := by
  have hbits : ∀ a b c d : Bool,
      let w := BitVec.ofBool a ++ BitVec.ofBool b ++ BitVec.ofBool c ++ BitVec.ofBool d
      w.getLsbD 0 = d ∧ w.getLsbD 1 = c ∧ w.getLsbD 2 = b ∧ w.getLsbD 3 = a := by decide
  exact hbits _ _ _ _

/-- Settles O46, by the two answers of the reset sequence. -/
theorem resetSequenceAdmitsAndLatches : Obligations.ResetSequenceAdmitsAndLatches := by
  intro r
  obtain ⟨ch, hm, hunwired, hrefuse⟩ | ⟨hall, hadmit⟩ := instantiate_cases r
  · exact ⟨fun _ => ⟨ch, hm, hunwired, hrefuse⟩, fun hall => absurd (hall ch hm) hunwired⟩
  · obtain ⟨hparse, hignore, hsquelch, hemit⟩ := session_options r
    exact ⟨fun ⟨ch, hm, hunwired⟩ => absurd (hall ch hm) hunwired, fun _ =>
      ⟨r.session, hadmit, hparse, hignore, hsquelch, hemit, presOf_wired hall, rfl, rfl⟩⟩

/-- Settles O45: an admitted session differs from the reset state in its constants only. -/
theorem resetValues : Obligations.ResetValues := by
  intro r s h
  obtain ⟨ch, -, -, hrefuse⟩ | ⟨-, hadmit⟩ := instantiate_cases r
  · cases hrefuse.symm.trans h
  · cases hadmit.symm.trans h
    exact ⟨fun f => by cases f <;> rfl, rfl, rfl, rfl, rfl, rfl, rfl, rfl⟩

/-- Settles O47: the ports of the reset state are empty, its capture is Idle and its snapshot blank. -/
theorem resetStateIsGood : Obligations.ResetStateIsGood := by
  have hports : State.reset.portsOrdered := ⟨.nil, .nil, nofun⟩
  exact ⟨⟨rfl, nofun, hports, rfl⟩, rfl⟩

end Sys2Proof.Machine
end

section
/-! The cycle word and its five fields (R70, R72): the word put together and taken apart, and the snapshot's lines as
the fields of its word. -/

namespace Sys2Proof

/-- The cycle word with the given fields: D in bits 13:6, above DA, CS1N, CS0N and WR (R72). -/
def joinFields (d : Byte) (da : BitVec 3) (cs1n cs0n wr : Bool) : CycleWord :=
  d ++ (da ++ (BitVec.ofBool cs1n ++ BitVec.ofBool cs0n) ++ BitVec.ofBool wr)

/-! ### A word is a data byte above six low bits -/

section
variable (d : Byte) (lo : BitVec 6)

theorem getLsbD_append_low {k : Nat} (hk : k < 6) : (d ++ lo : CycleWord).getLsbD k = lo.getLsbD k :=
  BitVec.getLsbD_append.trans (if_pos hk)

theorem wrOf_append : wrOf (d ++ lo) = lo.getLsbD 0 := getLsbD_append_low d lo (by decide)

theorem cs0nOf_append : cs0nOf (d ++ lo) = lo.getLsbD 1 := getLsbD_append_low d lo (by decide)

theorem cs1nOf_append : cs1nOf (d ++ lo) = lo.getLsbD 2 := getLsbD_append_low d lo (by decide)

theorem daOf_append : daOf (d ++ lo) = lo.extractLsb' 3 3 := BitVec.extractLsb'_append_eq_of_add_le (by decide)

theorem dOf_append : dOf (d ++ lo) = d := BitVec.extractLsb'_append_eq_left

end

/-- A word is the word of its fields. -/
theorem joinFields_fields (w : CycleWord) : joinFields (dOf w) (daOf w) (cs1nOf w) (cs0nOf w) (wrOf w) = w := by
  obtain ⟨d, lo, rfl⟩ : ∃ (d : Byte) (lo : BitVec 6), w = d ++ lo :=
    ⟨_, _, (BitVec.extractLsb'_append_extractLsb' (len := 6) (w := 8)).symm⟩
  have hlo : ∀ l : BitVec 6, l.extractLsb' 3 3 ++ (BitVec.ofBool (l.getLsbD 2) ++ BitVec.ofBool (l.getLsbD 1)) ++
      BitVec.ofBool (l.getLsbD 0) = l := by decide
  rw [joinFields, dOf_append, daOf_append, cs1nOf_append, cs0nOf_append, wrOf_append, hlo]

section
variable (d : Byte) (da : BitVec 3) (cs1n cs0n wr : Bool)

@[simp] theorem wrOf_joinFields : wrOf (joinFields d da cs1n cs0n wr) = wr := by
  rw [joinFields, wrOf_append]
  revert da cs1n cs0n wr
  decide

@[simp] theorem cs0nOf_joinFields : cs0nOf (joinFields d da cs1n cs0n wr) = cs0n := by
  rw [joinFields, cs0nOf_append]
  revert da cs1n cs0n wr
  decide

@[simp] theorem cs1nOf_joinFields : cs1nOf (joinFields d da cs1n cs0n wr) = cs1n := by
  rw [joinFields, cs1nOf_append]
  revert da cs1n cs0n wr
  decide

@[simp] theorem daOf_joinFields : daOf (joinFields d da cs1n cs0n wr) = da := by
  rw [joinFields, daOf_append]
  revert da cs1n cs0n wr
  decide

@[simp] theorem dOf_joinFields : dOf (joinFields d da cs1n cs0n wr) = d := dOf_append d _

/-- The form in which the encoder writes the NONE classes (R74). -/
theorem append_append_eq_low (sel : BitVec 2) :
    d ++ da ++ sel ++ BitVec.ofBool wr = d ++ (da ++ sel ++ BitVec.ofBool wr) :=
  calc d ++ da ++ sel ++ BitVec.ofBool wr
    _ = d ++ (da ++ sel) ++ BitVec.ofBool wr := congrArg (· ++ BitVec.ofBool wr) BitVec.append_assoc
    _ = d ++ (da ++ sel ++ BitVec.ofBool wr) := BitVec.append_assoc

end

namespace Machine

/-- The word of a snapshot has the snapshot's lines as its fields (R54, R70). -/
theorem cycleWord_eq_joinFields (p : Pres) (x : Sample) (wr : Bool) :
    cycleWord p x wr = joinFields (dataByte p x) (regAddress p x) x.cs1 x.cs0 wr :=
  calc dataByte p x ++ regAddress p x ++ BitVec.ofBool x.cs1 ++ BitVec.ofBool x.cs0 ++ BitVec.ofBool wr
    _ = dataByte p x ++ regAddress p x ++ (BitVec.ofBool x.cs1 ++ BitVec.ofBool x.cs0) ++ BitVec.ofBool wr :=
      congrArg (· ++ BitVec.ofBool wr) BitVec.append_assoc
    _ = joinFields (dataByte p x) (regAddress p x) x.cs1 x.cs0 wr := append_append_eq_low _ _ _ _

/-- The data lines are mandatory channels, `d0` the lowest (R31, R54). -/
theorem dataByte_toNat (p : Pres) (x : Sample) :
    (dataByte p x).toNat = x.d0.toNat + 2 * x.d1.toNat + 4 * x.d2.toNat + 8 * x.d3.toNat + 16 * x.d4.toNat +
      32 * x.d5.toNat + 64 * x.d6.toNat + 128 * x.d7.toNat := by
  simp only [dataByte, level, Pres.wired, Sample.line, Bool.true_and, BitVec.append_ofBool, BitVec.toNat_concat,
    BitVec.toNat_ofBool]
  ring

/-- The address lines are mandatory channels, `da0` the lowest (R31, R54). -/
theorem regAddress_toNat (p : Pres) (x : Sample) :
    (regAddress p x).toNat = x.da0.toNat + 2 * x.da1.toNat + 4 * x.da2.toNat := by
  simp only [regAddress, level, Pres.wired, Sample.line, Bool.true_and, BitVec.append_ofBool, BitVec.toNat_concat,
    BitVec.toNat_ofBool]
  ring

/-- Settles O22: the fields are those the word was joined from, and the two numbers are read off their lines. -/
theorem cycleWordReadsTheLines : Obligations.CycleWordReadsTheLines := by
  intro p x wr
  rw [cycleWord_eq_joinFields, daOf_joinFields, dOf_joinFields]
  exact ⟨wrOf_joinFields .., cs0nOf_joinFields .., cs1nOf_joinFields .., regAddress_toNat p x, dataByte_toNat p x⟩

end Machine
end Sys2Proof
end

section
/-! The decoder and the encoder are inverse to each other: on the 14-bit words and the well-formed instructions (R74 to
R76), and on bytes (log 16). -/

namespace Sys2Proof

/-! ### The decoder on the fields -/

section
variable (wr : Bool) (da : BitVec 3) (d : Byte)

@[simp] theorem decodeWord_commandBlock :
    decodeWord (joinFields d da true false wr) = decodeCommandBlock wr da d := by
  simp [decodeWord]

@[simp] theorem decodeWord_controlBlock :
    decodeWord (joinFields d da false true wr) = decodeControlBlock wr da d := by
  simp [decodeWord]

@[simp] theorem decodeWord_bothSel : decodeWord (joinFields d da false false wr) = .noneBothSel wr da d := by
  simp [decodeWord]

@[simp] theorem decodeWord_noSel : decodeWord (joinFields d da true true wr) = .noneNoSel wr da d := by
  simp [decodeWord]

/-! ### Every word is the encoding of the well-formed instruction it decodes to -/

/-- `i` is a well-formed instruction and `w` its word. -/
def Encodes (i : Instr) (w : CycleWord) : Prop := i.wf = true ∧ encode i = w

theorem address_cases : da = 0#3 ∨ da = 1#3 ∨ da = 2#3 ∨ da = 3#3 ∨ da = 4#3 ∨ da = 5#3 ∨ da = 6#3 ∨ da = 7#3 := by
  revert da
  decide

/-- A Command write is the PACKET class or, with any other opcode, COMMAND_W (R75). -/
theorem decodeCommandBlock_command :
    Encodes (decodeCommandBlock true 7#3 d) (joinFields d 7#3 true false true) := by
  by_cases hd : d = Config.packetOpcode
  · subst hd
    exact ⟨rfl, rfl⟩
  · rw [show decodeCommandBlock true 7#3 d = .commandW d from if_neg hd]
    exact ⟨bne_iff_ne.2 hd, rfl⟩

theorem decodeCommandBlock_encodes :
    Encodes (decodeCommandBlock wr da d) (joinFields d da true false wr) := by
  cases wr with
  | false => rcases address_cases da with rfl | rfl | rfl | rfl | rfl | rfl | rfl | rfl <;> exact ⟨rfl, rfl⟩
  | true =>
    rcases address_cases da with rfl | rfl | rfl | rfl | rfl | rfl | rfl | rfl
    iterate 7 exact ⟨rfl, rfl⟩
    · exact decodeCommandBlock_command d

theorem decodeControlBlock_encodes :
    Encodes (decodeControlBlock wr da d) (joinFields d da false true wr) := by
  have hnone : d ++ da ++ 0b01#2 ++ BitVec.ofBool wr = joinFields d da false true wr :=
    append_append_eq_low d da wr 0b01#2
  rcases address_cases da with rfl | rfl | rfl | rfl | rfl | rfl | rfl | rfl
  iterate 6 exact ⟨rfl, hnone⟩
  iterate 2 cases wr <;> exact ⟨rfl, rfl⟩

end

theorem decodeWord_encodes (w : CycleWord) : Encodes (decodeWord w) w := by
  rw [← joinFields_fields w]
  generalize dOf w = d, daOf w = da, wrOf w = wr
  cases cs1nOf w <;> cases cs0nOf w
  · rw [decodeWord_bothSel]
    exact ⟨rfl, append_append_eq_low d da wr 0b00#2⟩
  · rw [decodeWord_controlBlock]
    exact decodeControlBlock_encodes wr da d
  · rw [decodeWord_commandBlock]
    exact decodeCommandBlock_encodes wr da d
  · rw [decodeWord_noSel]
    exact ⟨rfl, append_append_eq_low d da wr 0b11#2⟩

/-- Settles O18, class by class in `decodeWord_encodes`. -/
theorem encodeOfDecode : Obligations.EncodeOfDecode := decodeWord_encodes

/-! ### Every well-formed instruction is decoded from its word -/

/-- Every well-formed instruction is decoded from some word: the row of its class with its operands (R74). -/
theorem exists_word_of_wf {i : Instr} (h : i.wf = true) : ∃ w, decodeWord w = i := by
  cases i with
  | dataW d => exact ⟨_, decodeWord_commandBlock true 0#3 d⟩
  | featuresW d => exact ⟨_, decodeWord_commandBlock true 1#3 d⟩
  | seccntW d => exact ⟨_, decodeWord_commandBlock true 2#3 d⟩
  | lba0W d => exact ⟨_, decodeWord_commandBlock true 3#3 d⟩
  | lba1W d => exact ⟨_, decodeWord_commandBlock true 4#3 d⟩
  | lba2W d => exact ⟨_, decodeWord_commandBlock true 5#3 d⟩
  | deviceW d => exact ⟨_, decodeWord_commandBlock true 6#3 d⟩
  | commandW d =>
    exact ⟨_, (decodeWord_commandBlock true 7#3 d).trans (if_neg (bne_iff_ne.1 h))⟩
  | commandPacketW => exact ⟨_, decodeWord_commandBlock true 7#3 Config.packetOpcode⟩
  | dataR d => exact ⟨_, decodeWord_commandBlock false 0#3 d⟩
  | errorR d => exact ⟨_, decodeWord_commandBlock false 1#3 d⟩
  | seccntR d => exact ⟨_, decodeWord_commandBlock false 2#3 d⟩
  | lba0R d => exact ⟨_, decodeWord_commandBlock false 3#3 d⟩
  | lba1R d => exact ⟨_, decodeWord_commandBlock false 4#3 d⟩
  | lba2R d => exact ⟨_, decodeWord_commandBlock false 5#3 d⟩
  | deviceR d => exact ⟨_, decodeWord_commandBlock false 6#3 d⟩
  | statusR d => exact ⟨_, decodeWord_commandBlock false 7#3 d⟩
  | devctlW d => exact ⟨_, decodeWord_controlBlock true 6#3 d⟩
  | altstatusR d => exact ⟨_, decodeWord_controlBlock false 6#3 d⟩
  | drvaddrW d => exact ⟨_, decodeWord_controlBlock true 7#3 d⟩
  | drvaddrR d => exact ⟨_, decodeWord_controlBlock false 7#3 d⟩
  | noneCtl03 wr da d =>
    have hda : da.toNat < 4 := of_decide_eq_true h
    exact ⟨_, (decodeWord_controlBlock wr da d).trans (if_pos hda)⟩
  | noneCtl45 wr da d =>
    obtain ⟨hlow, hhigh⟩ : 4 ≤ da.toNat ∧ da.toNat < 6 := by simpa [Instr.wf] using h
    exact ⟨_, (decodeWord_controlBlock wr da d).trans ((if_neg (by omega)).trans (if_pos hhigh))⟩
  | noneBothSel wr da d => exact ⟨_, decodeWord_bothSel wr da d⟩
  | noneNoSel wr da d => exact ⟨_, decodeWord_noSel wr da d⟩

/-- Settles O17: a well-formed instruction is decoded from some word, and that word is its encoding. -/
theorem decodeOfEncode : Obligations.DecodeOfEncode := by
  intro i h
  obtain ⟨w, rfl⟩ := exists_word_of_wf h
  obtain ⟨-, hw⟩ := decodeWord_encodes w
  exact congrArg decodeWord hw

/-- Settles O21: the decoder runs on each of the eight words. -/
theorem workedWordsDecode : Obligations.WorkedWordsDecode := by
  refine ⟨?_, ?_, ?_, ?_, ?_, ?_, ?_, ?_⟩ <;> decide

/-! ### The two-byte layout (log 16) -/

/-- The two bytes of a word, low byte first, read back. -/
theorem decodeBytes_ofWord (w : CycleWord) (rest : List Byte) :
    decodeBytes (w.extractLsb' 0 8 :: ((0#2 : BitVec 2) ++ w.extractLsb' 8 6) :: rest) = .ok (decodeWord w, rest) := by
  have htop : ((0#2 : BitVec 2) ++ w.extractLsb' 8 6).extractLsb' 6 2 = 0#2 := BitVec.extractLsb'_append_eq_left
  have hlow : ((0#2 : BitVec 2) ++ w.extractLsb' 8 6).extractLsb' 0 6 = w.extractLsb' 8 6 :=
    BitVec.extractLsb'_append_eq_right
  have hword : w.extractLsb' 8 6 ++ w.extractLsb' 0 8 = w := BitVec.extractLsb'_append_extractLsb'
  simp only [decodeBytes, htop, hlow, hword, if_true]

/-- Settles O19: the layout is read back by `decodeBytes_ofWord`, and a second byte of 64 or more has a bit in its top
two. -/
theorem decodeOfEncodedBytes : Obligations.DecodeOfEncodedBytes := by
  refine ⟨fun i rest h => ?_, fun b0 b1 rest h => if_neg fun htop => ?_⟩
  · have hbytes := decodeBytes_ofWord (encode i) rest
    rwa [decodeOfEncode i h] at hbytes
  · have hzero : b1.toNat / 64 % 4 = 0 := by
      simpa [Nat.shiftRight_eq_div_pow] using congrArg BitVec.toNat htop
    have := b1.isLt
    omega

/-- A table word below 2^14 is in the two-byte layout the word it is (log 16). -/
theorem decodeTableWord_of_lt {w : Nat} (h : w < 2 ^ 14) :
    decodeTableWord 16 w = some (decodeWord (BitVec.ofNat 14 w)) := by
  have hfirst : BitVec.ofNat 8 w = (BitVec.ofNat 14 w).extractLsb' 0 8 := by
    apply BitVec.eq_of_toNat_eq
    simp
  have hsecond : BitVec.ofNat 8 (w / 256) = (0#2 : BitVec 2) ++ (BitVec.ofNat 14 w).extractLsb' 8 6 := by
    apply BitVec.eq_of_toNat_eq
    refine Eq.trans ?_ (BitVec.toNat_append 0#2 ((BitVec.ofNat 14 w).extractLsb' 8 6)).symm
    simp [Nat.shiftRight_eq_div_pow]
    omega
  have hmod : w % 2 ^ 16 = w := Nat.mod_eq_of_lt (by omega)
  simp only [decodeTableWord, hmod, hfirst, hsecond, decodeBytes_ofWord]
  exact if_pos (by omega)

end Sys2Proof
end

section
/-! The opcode map against the decoder (R74, R75). -/

namespace Sys2Proof
open Laws

/-- The encoding of a well-formed instruction matches the row its mnemonic names, for every class (R74). -/
theorem tableRow (i : Instr) : TableRow.Statement i := by
  cases i with
  | dataW d => exact TableRow.dataW d
  | featuresW d => exact TableRow.featuresW d
  | seccntW d => exact TableRow.seccntW d
  | lba0W d => exact TableRow.lba0W d
  | lba1W d => exact TableRow.lba1W d
  | lba2W d => exact TableRow.lba2W d
  | deviceW d => exact TableRow.deviceW d
  | commandW d => exact TableRow.commandW d
  | commandPacketW => exact TableRow.commandPacketW
  | dataR d => exact TableRow.dataR d
  | errorR d => exact TableRow.errorR d
  | seccntR d => exact TableRow.seccntR d
  | lba0R d => exact TableRow.lba0R d
  | lba1R d => exact TableRow.lba1R d
  | lba2R d => exact TableRow.lba2R d
  | deviceR d => exact TableRow.deviceR d
  | statusR d => exact TableRow.statusR d
  | devctlW d => exact TableRow.devctlW d
  | altstatusR d => exact TableRow.altstatusR d
  | drvaddrW d => exact TableRow.drvaddrW d
  | drvaddrR d => exact TableRow.drvaddrR d
  | noneCtl03 wr da d => exact TableRow.noneCtl03 wr da d
  | noneCtl45 wr da d => exact TableRow.noneCtl45 wr da d
  | noneBothSel wr da d => exact TableRow.noneBothSel wr da d
  | noneNoSel wr da d => exact TableRow.noneNoSel wr da d

/-- The row of COMMAND_W. -/
def commandRow : OpcodeRow := ⟨"COMMAND_W", 0x003D#14, 0x003F#14⟩

/-- The row of COMMAND_PACKET_W. -/
def packetRow : OpcodeRow := ⟨"COMMAND_PACKET_W", 0x283D#14, 0x3FFF#14⟩

/-- A mnemonic names one row of the opcode map. -/
theorem row_eq_of_mnemonic {r r' : OpcodeRow} (hr : r ∈ opcodeTable) (hr' : r' ∈ opcodeTable)
    (h : r.mnemonic = r'.mnemonic) : r = r' :=
  List.inj_on_of_nodup_map (f := OpcodeRow.mnemonic) (by decide) hr hr' h

/-- Two rows whose patterns agree on the bits that both masks read are one row, or COMMAND_W's and PACKET's (R75). -/
theorem rows_compatible : ∀ r ∈ opcodeTable, ∀ r' ∈ opcodeTable, r.pattern &&& r'.mask = r'.pattern &&& r.mask →
    r = r' ∨ (r = commandRow ∧ r' = packetRow) ∨ (r = packetRow ∧ r' = commandRow) := by
  decide

/-- Two rows that one word matches are one row, or COMMAND_W's and PACKET's (R75). -/
theorem rows_of_word {w : CycleWord} {r r' : OpcodeRow} (hr : r ∈ opcodeTable) (hr' : r' ∈ opcodeTable)
    (h : w &&& r.mask = r.pattern) (h' : w &&& r'.mask = r'.pattern) :
    r = r' ∨ (r = commandRow ∧ r' = packetRow) ∨ (r = packetRow ∧ r' = commandRow) :=
  rows_compatible r hr r' hr' (by rw [← h, ← h', BitVec.and_assoc, BitVec.and_assoc, BitVec.and_comm r.mask])

/-- The row of PACKET fixes every bit: one word matches it. -/
theorem eq_of_packetRow {w : CycleWord} (h : w &&& packetRow.mask = packetRow.pattern) : w = 0x283D#14 := by
  have hall : w &&& packetRow.mask = w := BitVec.and_allOnes
  exact hall.symm.trans h

/-- Settles O20: the word matches the row of its decoded class by `tableRow`, and shares it with no other row but
where COMMAND_W's meets PACKET's. -/
theorem opcodeMapMatchesTheDecoder : Obligations.OpcodeMapMatchesTheDecoder := by
  intro w r hr
  obtain ⟨hwf, henc⟩ := decodeWord_encodes w
  obtain ⟨r', hr', hname, hmatch⟩ := tableRow (decodeWord w) hwf
  rw [henc] at hmatch
  constructor
  · intro h
    obtain rfl | ⟨rfl, rfl⟩ | ⟨rfl, rfl⟩ := rows_of_word hr hr' h hmatch
    · exact .inl hname
    · exact .inr ⟨rfl, eq_of_packetRow hmatch⟩
    · exact .inl (by rw [eq_of_packetRow h]; rfl)
  · rintro (h | ⟨h, rfl⟩)
    · rwa [row_eq_of_mnemonic hr hr' (h.trans hname.symm)]
    · rw [row_eq_of_mnemonic (r' := commandRow) hr (by decide) h]
      rfl

end Sys2Proof
end

section
/-! A cycle on the bus lines, and a table word delivered as the next cycle (R100, R101, log 2). -/

namespace Sys2Proof.Machine

/-- The lines that carry a word read as that word (R70). -/
theorem cycleWord_ofWord (p : Pres) (idx : Nat) (w : CycleWord) (diow dior dmarq intrq : Bool) :
    cycleWord p (Sample.ofWord idx w diow dior dmarq intrq) (wrOf w) = w := by
  have hd : dataByte p (Sample.ofWord idx w diow dior dmarq intrq) = dOf w := by
    refine BitVec.eq_of_getLsbD_eq fun k hk => ?_
    simp only [dataByte, level, Pres.wired, Sample.line, Sample.ofWord, Bool.true_and, BitVec.append_ofBool,
      BitVec.getLsbD_concat, dOf, BitVec.getLsbD_extractLsb']
    interval_cases k <;> simp
  have hda : regAddress p (Sample.ofWord idx w diow dior dmarq intrq) = daOf w := by
    refine BitVec.eq_of_getLsbD_eq fun k hk => ?_
    simp only [regAddress, level, Pres.wired, Sample.line, Sample.ofWord, Bool.true_and, BitVec.append_ofBool,
      BitVec.getLsbD_concat, daOf, BitVec.getLsbD_extractLsb']
    interval_cases k <;> simp
  rw [cycleWord_eq_joinFields, hd, hda]
  exact joinFields_fields w

/-- The edge sample of a placed cycle starts a cycle of the word's direction (R101). -/
theorem strobe_placeCycle (s : State) (idx : Nat) (w : CycleWord) (dmarq intrq : Bool) :
    strobe (s.placeCycle w) (edgeSample idx w dmarq intrq) = some (some (wrOf w)) := by
  cases hwr : wrOf w <;>
    simp [strobe, fellDiow, fellDior, level, Pres.wired, Sample.line, State.placeCycle, edgeSample, Sample.ofWord, hwr]

/-- The squelch drops no cycle whose snapshot has DMARQ low (R104). -/
theorem squelched_of_dmarq_low {s : State} {x : Sample} (h : x.dmarq = false) : squelched s x = false := by
  simp [squelched, level, Sample.line, h]

/-- A step whose sample starts a cycle that the squelch lets pass runs the meaning of its word (R100, R103). -/
theorem step_of_cycle {s : State} {x : Sample} {rest : List Sample} {wr : Bool} (hi : s.input = x :: rest)
    (hs : strobe s x = some (some wr)) (hq : squelched s x = false) :
    ∃ u, exec (decodeWord (cycleWord s.pres x wr)) ((s.consume x rest).latch x) = .next u ∧
      step s = .next u.release := by
  obtain ⟨u, hu, -⟩ := exec_cycleAnswers (decodeWord (cycleWord s.pres x wr)) ((s.consume x rest).latch x)
  have hfetch : fetch s = some ((s.consume x rest).latch x, some (cycleWord s.pres x wr)) := by
    simp [fetch, hi, hs, hq]
  refine ⟨u, hu, ?_⟩
  rw [step, hfetch]
  exact (endCycle_next _ _).2 ⟨u, hu, rfl⟩

/-- Settles O25: the placed word starts a cycle with DMARQ low, and neither placing it nor consuming its sample touches
what the statement keeps. -/
theorem placedTableWordRunsNext : Obligations.PlacedTableWordRunsNext := by
  intro s w h
  have hmod : w % 2 ^ 16 = w := Nat.mod_eq_of_lt (by omega)
  obtain ⟨u, hexec, hstep⟩ := step_of_cycle rfl (strobe_placeCycle s s.nextIndex (BitVec.ofNat 14 w) false false)
    (squelched_of_dmarq_low rfl)
  rw [edgeSample, cycleWord_ofWord] at hexec
  refine ⟨_, decodeTableWord_of_lt h, rfl, _, u, hexec, ?_, rfl, rfl, rfl, rfl, rfl, rfl, rfl, rfl⟩
  rw [State.withFetchWord, hmod]
  exact hstep

end Sys2Proof.Machine
end

section
/-! The bus-cycle recognizer (R100 to R104, R109, R112): what a step does, by the strobes and the DMARQ level of its
sample. -/

namespace Sys2Proof.Machine

section
variable {s : State} {x : Sample} {rest : List Sample}

/-! ### The strobes and the squelch on the lines of a sample -/

/-- A write strobe falls from a high level seen before to a low one (R101). -/
theorem fellDiow_iff (s : State) (x : Sample) :
    fellDiow s x = true ↔ s.ed.havePrev = true ∧ s.ed.prevDiow = true ∧ x.diow = false := by
  simp [fellDiow, level, Pres.wired, Sample.line, and_assoc]

/-- A read strobe falls from a high level seen before to a low one (R101). -/
theorem fellDior_iff (s : State) (x : Sample) :
    fellDior s x = true ↔ s.ed.havePrev = true ∧ s.ed.prevDior = true ∧ x.dior = false := by
  simp [fellDior, level, Pres.wired, Sample.line, and_assoc]

/-- No strobe falls where no sample was seen before (R101, D2). -/
theorem strobe_of_no_sample_before (hprev : s.ed.havePrev = false) : strobe s x = none := by
  simp [strobe, fellDiow, fellDior, hprev]

/-- After both strobes were high, the edge sample of a word starts a cycle of the word's direction (R101). -/
theorem strobe_edgeSample (hed : s.ed = { prevDiow := true, prevDior := true, havePrev := true }) (idx : Nat)
    (w : CycleWord) (dmarq intrq : Bool) : strobe s (edgeSample idx w dmarq intrq) = some (some (wrOf w)) := by
  cases hwr : wrOf w <;>
    simp [strobe, fellDiow, fellDior, level, Pres.wired, Sample.line, edgeSample, Sample.ofWord, hed, hwr]

/-- The squelch drops a cycle under its option with DMARQ wired and high (R104). -/
theorem squelched_iff (s : State) (x : Sample) :
    squelched s x = true ↔ s.squelchDma = true ∧ s.pres.dmarq = true ∧ x.dmarq = true := by
  simp [squelched, level, Pres.wired, Sample.line]

/-! ### The ways a step ends, but for the cycle that runs (`step_of_cycle`) -/

theorem step_of_no_input (hi : s.input = []) : step s = .fault .endOfInput := by
  simp [step, fetch, hi]

theorem step_of_no_strobe (hi : s.input = x :: rest) (hs : strobe s x = none) :
    step s = .next ((s.consume x rest).withOutcome .noEdge) := by
  simp [step, fetch, hi, hs]

theorem step_of_discarded_strobes (hi : s.input = x :: rest) (hs : strobe s x = some none) :
    step s = .next ((s.consume x rest).withOutcome .simulStrobe) := by
  simp [step, fetch, hi, hs]

theorem step_of_squelched {wr : Bool} (hi : s.input = x :: rest) (hs : strobe s x = some (some wr))
    (hq : squelched s x = true) : step s = .next ((s.consume x rest).withOutcome .squelched) := by
  simp [step, fetch, hi, hs, hq]

end

/-- Settles O23: `step_of_cycle`, with the edge detector's levels read off the lines. -/
theorem stepRunsTheDecodedCycle : Obligations.StepRunsTheDecodedCycle := by
  intro s x rest wr hi hs hq
  rw [← edgeAfter_eq s.pres x]
  exact step_of_cycle hi hs hq

/-- Settles O24: the edge sample starts a cycle whose word is the encoding, and the decoder inverts the encoder. -/
theorem stepRunsTheInstructionOnTheBus : Obligations.StepRunsTheInstructionOnTheBus := by
  intro i s idx dmarq intrq rest hwf hed hi hkeep
  have hq : squelched s (edgeSample idx (encode i) dmarq intrq) = false :=
    Bool.eq_false_iff.2 (mt (squelched_iff s _).1 hkeep)
  have hstep := stepRunsTheDecodedCycle s _ rest _ hi (strobe_edgeSample hed idx (encode i) dmarq intrq) hq
  rwa [edgeSample, cycleWord_ofWord, decodeOfEncode i hwf] at hstep

/-- Settles O26: with neither strobe falling no cycle starts. -/
theorem quietSampleOnlyUpdatesTheEdgeDetector : Obligations.QuietSampleOnlyUpdatesTheEdgeDetector := by
  intro s x rest hi hw hr
  rw [← edgeAfter_eq s.pres x]
  exact step_of_no_strobe hi (by simp [strobe, hw, hr])

/-- Settles O27: the reset state has seen no sample, so that no strobe falls in the first. -/
theorem fallingEdgeNeedsAHighSampleBefore : Obligations.FallingEdgeNeedsAHighSampleBefore := by
  refine ⟨fun s x => ⟨fellDiow_iff s x, fellDior_iff s x⟩, fun x rest => ?_⟩
  rw [← edgeAfter_eq State.reset.pres x]
  exact step_of_no_strobe rfl (strobe_of_no_sample_before rfl)

/-- Settles O28: the edge detector and the input port are in the frame of every step, and a strobe falls only from a
level that the edge detector holds as high. -/
theorem everyStepTracksTheStrobes : Obligations.EveryStepTracksTheStrobes := by
  have htrack {s t : State} {x : Sample} {rest : List Sample} (hi : s.input = x :: rest) (h : step s = .next t) :
      t.ed = { prevDiow := x.diow, prevDior := x.dior, havePrev := true } ∧ t.input = rest := by
    have hframe := step_cycleFrame hi h
    exact ⟨hframe.ed.trans (edgeAfter_eq s.pres x), hframe.input⟩
  refine ⟨fun s t x rest hi h => htrack hi h, fun s t x y rest hi h => ?_⟩
  obtain ⟨hed, -⟩ := htrack hi h
  exact ⟨fun hlow => by simp [fellDiow, hed, hlow], fun hlow => by simp [fellDior, hed, hlow]⟩

/-- Settles O29: with both strobes falling the direction is the parameter's. -/
theorem simultaneousStrobesFollowTheParameter : Obligations.SimultaneousStrobesFollowTheParameter := by
  intro s x rest hi hw hr
  refine ⟨fun hp => by simp [strobe, hw, hr, hp], fun hp => by simp [strobe, hw, hr, hp], fun hp => ?_⟩
  rw [← edgeAfter_eq s.pres x]
  exact step_of_discarded_strobes hi (by simp [strobe, hw, hr, hp])

/-- Settles O30: the squelch takes all three conditions, and a cycle it lets pass is run (O23). -/
theorem dmaSquelchDropsTheCycle : Obligations.DmaSquelchDropsTheCycle := by
  intro s x rest wr hi hs
  refine ⟨fun hopt hwired hhigh => ?_, fun habsent => ?_⟩
  · rw [← edgeAfter_eq s.pres x]
    exact step_of_squelched hi hs ((squelched_iff s x).2 ⟨hopt, hwired, hhigh⟩)
  · refine stepRunsTheDecodedCycle s x rest wr hi hs (Bool.eq_false_iff.2 fun hq => ?_)
    obtain ⟨hopt, hwired, hhigh⟩ := (squelched_iff s x).1 hq
    simp [hopt, hwired, hhigh] at habsent

/-- Settles O33: a step with a sample left answers a next state, and one without stops by name. -/
theorem stepStopsOnlyAtTheEndOfInput : Obligations.StepStopsOnlyAtTheEndOfInput := by
  refine ⟨fun s => step_of_no_input, fun s f h => ?_, fun s r h => ?_⟩
  · cases hi : s.input with
    | nil => rfl
    | cons x rest =>
      obtain ⟨t, ht⟩ := step_next_of_input hi
      cases h.symm.trans ht
  · cases hi : s.input with
    | nil => cases h.symm.trans (step_of_no_input hi)
    | cons x rest =>
      obtain ⟨t, ht⟩ := step_next_of_input hi
      cases h.symm.trans ht

end Sys2Proof.Machine
end

section
/-! Noninterference of the channels that no rule reads (R108): whatever a step takes from a sample, two samples that
agree on the other channels give alike. -/

namespace Sys2Proof.Machine

section
variable {x y : Sample}

theorem cycleWord_congr (h : agreeOnReadChannels x y) (p : Pres) (wr : Bool) : cycleWord p x wr = cycleWord p y wr := by
  obtain ⟨-, hline⟩ := h
  simp [cycleWord, dataByte, regAddress, level, hline]

theorem strobe_congr (h : agreeOnReadChannels x y) (s : State) : strobe s x = strobe s y := by
  obtain ⟨-, hline⟩ := h
  simp [strobe, fellDiow, fellDior, level, hline]

theorem squelched_congr (h : agreeOnReadChannels x y) (s : State) : squelched s x = squelched s y := by
  obtain ⟨-, hline⟩ := h
  simp [squelched, level, hline]

theorem consume_congr (h : agreeOnReadChannels x y) (s : State) (rest : List Sample) :
    s.consume x rest = s.consume y rest := by
  obtain ⟨-, hline⟩ := h
  simp [State.consume, edgeAfter, level, hline]

/-- Of its snapshot a cycle reads INTRQ, and its records the index; its end blanks the rest (R35, R102, R164). -/
theorem release_afterCycle_congr (hidx : x.idx = y.idx) (hintrq : x.intrq = y.intrq) (s : State) (i : Instr) :
    ((s.latch x).afterCycle i).release = ((s.latch y).afterCycle i).release := by
  have hread (reg : RegId) (d : Byte) : readReport reg d (s.latch x) = readReport reg d (s.latch y) := by
    simp [readReport, hintrq]
  have hreport : cycleReport (s.latch x) i = cycleReport (s.latch y) i := by
    cases i with
    | dataR d => exact congrArg (fun r => if s.emitReads then r else dataRawReport .read d s) (hread .data d)
    | errorR d | seccntR d | lba0R d | lba1R d | lba2R d | deviceR d | drvaddrR d =>
      exact congrArg (fun r => if s.emitReads then r else (.noArm, [])) (hread _ d)
    | statusR d => exact hread .status d
    | altstatusR d => exact hread .altStatus d
    | _ => rfl
  have hcdb : captureAfter (s.latch x) i = captureAfter (s.latch y) i := by cases i <;> rfl
  simp [State.afterCycle, State.reported, State.release, hreport, hcdb, hidx]

/-- A step that runs a cycle, by the state its cycle ends in. -/
theorem step_of_cycle_afterCycle {s : State} {rest : List Sample} {wr : Bool} (hi : s.input = x :: rest)
    (hs : strobe s x = some (some wr)) (hq : squelched s x = false) :
    step s = .next (((s.consume x rest).latch x).afterCycle (decodeWord (cycleWord s.pres x wr))).release := by
  obtain ⟨u, hu, hstep⟩ := step_of_cycle hi hs hq
  rw [hstep, eq_afterCycle hu]

/-- The two samples start the same cycle or none, and the step ends in the same state. -/
theorem step_congr_sample (h : agreeOnReadChannels x y) {s t : State} {rest : List Sample} (hs : s.input = x :: rest)
    (ht : t = { s with input := y :: rest }) : step s = step t := by
  have htin : t.input = y :: rest := by rw [ht]
  have hstrobe : strobe t y = strobe s x := by rw [strobe_congr h, ht]; rfl
  have hsquelched : squelched t y = squelched s x := by rw [squelched_congr h, ht]; rfl
  have hconsume : t.consume y rest = s.consume x rest := by rw [consume_congr h, ht]; rfl
  have hword (wr : Bool) : cycleWord t.pres y wr = cycleWord s.pres x wr := by rw [cycleWord_congr h, ht]
  have ⟨hidx, hline⟩ := h
  cases hdir : strobe s x with
  | none => rw [step_of_no_strobe hs hdir, step_of_no_strobe htin (hstrobe.trans hdir), hconsume]
  | some dir =>
    cases dir with
    | none => rw [step_of_discarded_strobes hs hdir, step_of_discarded_strobes htin (hstrobe.trans hdir), hconsume]
    | some wr =>
      cases hq : squelched s x with
      | true =>
        rw [step_of_squelched hs hdir hq, step_of_squelched htin (hstrobe.trans hdir) (hsquelched.trans hq), hconsume]
      | false =>
        rw [step_of_cycle_afterCycle hs hdir hq,
          step_of_cycle_afterCycle htin (hstrobe.trans hdir) (hsquelched.trans hq), hconsume, hword,
          release_afterCycle_congr hidx (hline .intrq (by simp))]

end

/-- Settles O44: `step_congr_sample`, from the two states that differ in the sample alone. -/
theorem unreadChannelsHaveNoEffect : Obligations.UnreadChannelsHaveNoEffect :=
  fun _ _ _ _ h => step_congr_sample h rfl rfl

end Sys2Proof.Machine
end

section
/-! The decoder with the 25 meanings against the classifier with the first-match dispatch (R105 to R107). -/

namespace Sys2Proof.Machine

/-! ### The meanings that the dispatch divides between arms or inside one -/

/-- The reads that only arm 2 reports: `emit_reads` decides (R107, R161). -/
theorem optionalRead_eq_dispatch {reg : RegId} (hreg : reg ∉ [RegId.data, .status, .altStatus]) (d : Byte)
    (s : State) : optionalRead reg d s = dispatch reg false d s := by
  obtain ⟨hdata, hstatus, halt⟩ : reg ≠ .data ∧ reg ≠ .status ∧ reg ≠ .altStatus := by simpa using hreg
  cases he : s.emitReads <;> simp [dispatch, dispatchLaterArms, optionalRead, he, hdata, hstatus, halt]

/-- A Data read is arm 2's under `emit_reads` and else arm 4's, whose rule begins with the same test (R107, R191). -/
theorem execDataR_eq_dispatch (d : Byte) (s : State) : execDataR d s = dispatch .data false d s := by
  cases he : s.emitReads <;> simp [dispatch, dispatchLaterArms, execDataR, he]

/-- A Command write is arm 5's, which tells the PACKET opcode from the others as the decoder does (R75, R107). -/
theorem exec_command_eq_dispatch (d : Byte) (s : State) :
    exec (decodeCommandBlock true 7#3 d) s = dispatch .command true d s := by
  by_cases hd : d = Config.packetOpcode <;>
    simp [dispatch, dispatchLaterArms, taskFileWrite, decodeCommandBlock, exec, hd]

/-! ### The spec's path on the fields of a word -/

section
variable {d : Byte} {da : BitVec 3} {cs1n cs0n wr : Bool} {s : State} {i : Instr}

theorem exec_eq_of_classify_none (hclass : classify (!cs0n) (!cs1n) da wr = none)
    (hexec : exec i s = discard .unrecognized s) : exec i s = classifyAndDispatch (joinFields d da cs1n cs0n wr) s := by
  simp [classifyAndDispatch, hclass, hexec]

theorem exec_eq_of_classify {reg : RegId} (hclass : classify (!cs0n) (!cs1n) da wr = some reg)
    (hexec : exec i s = dispatch reg wr d s) : exec i s = classifyAndDispatch (joinFields d da cs1n cs0n wr) s := by
  simp [classifyAndDispatch, hclass, hexec]

end

section
variable (d : Byte) (da : BitVec 3) (wr : Bool) (s : State)

theorem exec_commandBlock :
    exec (decodeCommandBlock wr da d) s = classifyAndDispatch (joinFields d da true false wr) s := by
  cases wr with
  | true =>
    rcases address_cases da with rfl | rfl | rfl | rfl | rfl | rfl | rfl | rfl
    iterate 7 exact exec_eq_of_classify rfl rfl
    · exact exec_eq_of_classify rfl (exec_command_eq_dispatch d s)
  | false =>
    rcases address_cases da with rfl | rfl | rfl | rfl | rfl | rfl | rfl | rfl
    · exact exec_eq_of_classify rfl (execDataR_eq_dispatch d s)
    iterate 6 exact exec_eq_of_classify rfl (optionalRead_eq_dispatch (by decide) d s)
    · exact exec_eq_of_classify rfl rfl

theorem exec_controlBlock :
    exec (decodeControlBlock wr da d) s = classifyAndDispatch (joinFields d da false true wr) s := by
  rcases address_cases da with rfl | rfl | rfl | rfl | rfl | rfl | rfl | rfl
  iterate 6 exact exec_eq_of_classify_none rfl rfl
  · cases wr <;> exact exec_eq_of_classify rfl rfl
  · cases wr with
    | true => exact exec_eq_of_classify rfl rfl
    | false => exact exec_eq_of_classify rfl (optionalRead_eq_dispatch (by decide) d s)

end

/-- Settles O49, by the select lines: block by block where one of the two is active, else no register is addressed. -/
theorem meaningsAgreeWithClassifyAndDispatch : Obligations.MeaningsAgreeWithClassifyAndDispatch := by
  intro w s
  rw [← joinFields_fields w]
  generalize dOf w = d, daOf w = da, wrOf w = wr
  cases cs1nOf w <;> cases cs0nOf w
  · rw [decodeWord_bothSel]
    exact exec_eq_of_classify_none rfl rfl
  · rw [decodeWord_controlBlock]
    exact exec_controlBlock d da wr s
  · rw [decodeWord_commandBlock]
    exact exec_commandBlock d da wr s
  · rw [decodeWord_noSel]
    exact exec_eq_of_classify_none rfl rfl

end Sys2Proof.Machine
end

section
/-! The task-file and Device-Control writes (41_taskfile_writes.md): what each stores and reports, and what the silent
classes leave (R106, R130 to R137). -/

namespace Sys2Proof.Machine

/-- A redirected write in the state's own fields: the HOB latch chooses the register stored and reported (R22, R224). -/
theorem paramWrite_next (lo hi : TfField) (d : Byte) (s : State) :
    paramWrite lo hi d s = .next (if s.hobActive then
      { s with tf := s.tf.set hi d, outcome := some .dispatched,
               out := s.out ++ [record s.snap.idx .registerWrite (.regWrite hi d)] }
    else
      { s with tf := s.tf.set lo d, outcome := some .dispatched,
               out := s.out ++ [record s.snap.idx .registerWrite (.regWrite lo d)] }) := by
  rw [paramWrite_eq]
  split <;> rfl

/-- Settles O2: each of the five is the redirected write of its two registers. -/
theorem parameterWritesFollowHobLatch : Obligations.ParameterWritesFollowHobLatch :=
  ⟨paramWrite_next .features .hobFeatures, paramWrite_next .sectorCount .hobSectorCount,
    paramWrite_next .lba0 .hobLba0, paramWrite_next .lba1 .hobLba1, paramWrite_next .lba2 .hobLba2⟩

/-- Settles O1: the write is its entry of `exec_eq`, and a squelched step only consumes its sample. -/
theorem devctlWriteCopiesBitSevenToHobLatch : Obligations.DevctlWriteCopiesBitSevenToHobLatch := by
  refine ⟨fun d s => exec_eq s (.devctlW d), fun s x rest wr hi hs hq => ?_⟩
  exact ⟨_, step_of_squelched hi hs hq, rfl⟩

/-- Settles O5: none of the five classes reports or stores anything. -/
theorem silentClassesOnlySetTheOutcome : Obligations.SilentClassesOnlySetTheOutcome :=
  ⟨fun _ s => discard_eq s .noArm, fun _ _ _ s =>
    ⟨discard_eq s .unrecognized, discard_eq s .unrecognized, discard_eq s .unrecognized, discard_eq s .unrecognized⟩⟩

/-! ### What the bank's bytes mean to `deriveAddressing` (R182) -/

/-- No rule of the addressing reads the Features register (conflict C2). -/
theorem deriveAddressing_set_features (t : TaskFile) (f : TfField) (d : Byte) (hf : f = .features ∨ f = .hobFeatures) :
    deriveAddressing (t.set f d) = deriveAddressing t := by
  rcases hf with rfl | rfl <;> rfl

/-- The Device register counts by bit 6, the mode, and bits 3:0, the head (R34). -/
theorem deriveAddressing_set_device (t : TaskFile) {d e : Byte} (hmode : d.getLsbD 6 = e.getLsbD 6)
    (hhead : d &&& Config.devHeadMask = e &&& Config.devHeadMask) :
    deriveAddressing (t.set .device d) = deriveAddressing (t.set .device e) := by
  have haddr : addrMode (t.set .device d) = addrMode (t.set .device e) :=
    congrArg (fun b : Bool => if b then AddrMode.lba else .chs) hmode
  have hlba : lba28 (t.set .device d) = lba28 (t.set .device e) := by
    simp [lba28, TaskFile.set, hhead]
  unfold deriveAddressing
  rw [haddr, hlba]
  rfl

/-- Settles O4: `exec_eq` for the write and its record; the bits that count are those of the mask 0x4F; a later cycle
starts by the edge detector, the options and the wiring, none of which the write touches. -/
theorem deviceWriteIsNeverRedirected : Obligations.DeviceWriteIsNeverRedirected := by
  refine ⟨fun d s => exec_eq s (.deviceW d), fun t d e h => ?_, fun d s t xs h => ?_, fun d op s t u ht hu => ?_⟩
  · refine deriveAddressing_set_device t ?_ ?_
    · simpa using congrArg (BitVec.getLsbD · 6) h
    · have hmask : 0x4F#8 &&& Config.devHeadMask = Config.devHeadMask := by decide
      simpa [BitVec.and_assoc, hmask] using congrArg (· &&& Config.devHeadMask) h
  · rw [eq_afterCycle h]
    rfl
  · rw [eq_afterCycle hu, eq_afterCycle ht]
    rfl

/-! ### The high-order bytes in the derived values (R55, R182) -/

/-- With one of the four high-order registers nonzero the addressing is the extended one. -/
theorem deriveAddressing_of_isExtended {t : TaskFile} (h : isExtended t = true) :
    deriveAddressing t = { mode := addrMode t, sc := sc16 t, lba := lba48 t, ext := true } := if_pos h

/-- A byte shifted to bit `k` of a word stands in the eight bits from `k`. -/
theorem extractLsb'_byteShift_self {n k : Nat} (b : Byte) (hk : k + 8 ≤ n) :
    (b.setWidth n <<< k).extractLsb' k 8 = b := by
  refine BitVec.eq_of_getLsbD_eq fun i hi => ?_
  have hin : k + i < n := by omega
  simp [hi, hin]

/-- A byte shifted to bit `j` of a word leaves other eight bits clear. -/
theorem extractLsb'_byteShift_disjoint {n j k : Nat} (b : Byte) (h : j + 8 ≤ k ∨ k + 8 ≤ j) :
    (b.setWidth n <<< j).extractLsb' k 8 = 0#8 := by
  refine BitVec.eq_of_getLsbD_eq fun i hi => ?_
  have hout : k + i < j ∨ 8 ≤ k + i - j := by omega
  rcases hout with hbelow | habove
  · simp [BitVec.getLsbD_extractLsb', hbelow]
  · simp [BitVec.getLsbD_extractLsb', BitVec.getLsbD_of_ge b _ habove]

/-- A byte in the low bits of a word leaves the eight bits from `k` clear. -/
theorem extractLsb'_byte_above {n k : Nat} (b : Byte) (hk : 8 ≤ k) : (b.setWidth n).extractLsb' k 8 = 0#8 := by
  simpa using extractLsb'_byteShift_disjoint (n := n) (j := 0) b (.inl hk)

/-- A byte widened to a word is the word's low byte. -/
theorem extractLsb'_byte_self {n : Nat} (b : Byte) (hn : 8 ≤ n) : (b.setWidth n).extractLsb' 0 8 = b := by
  simpa using extractLsb'_byteShift_self (k := 0) b (by omega)

theorem extractLsb'_sc16_high (t : TaskFile) : (sc16 t).extractLsb' 8 8 = t.hobSectorCount := by
  rw [sc16, BitVec.extractLsb'_or, extractLsb'_byteShift_self _ (by decide), extractLsb'_byte_above _ (by decide),
    BitVec.or_zero]

theorem extractLsb'_sc16_low (t : TaskFile) : (sc16 t).extractLsb' 0 8 = t.sectorCount := by
  rw [sc16, BitVec.extractLsb'_or, extractLsb'_byteShift_disjoint _ (by decide), extractLsb'_byte_self _ (by decide),
    BitVec.zero_or]

/-- Where the LBA registers of the high-order bank stand in the 48-bit LBA: the register and its lowest bit (R182). -/
def hobLbaPlaces : List (TfField × Nat) := [(.hobLba0, 24), (.hobLba1, 32), (.hobLba2, 40)]

theorem extractLsb'_lba48 {f : TfField} {k : Nat} (hplace : (f, k) ∈ hobLbaPlaces) (t : TaskFile) :
    (lba48 t).extractLsb' k 8 = t.get f := by
  simp only [hobLbaPlaces, List.mem_cons, Prod.mk.injEq, List.not_mem_nil, or_false] at hplace
  rcases hplace with ⟨rfl, rfl⟩ | ⟨rfl, rfl⟩ | ⟨rfl, rfl⟩ <;>
    simp (disch := decide) only [lba48, BitVec.extractLsb'_or, extractLsb'_byteShift_self,
      extractLsb'_byteShift_disjoint, extractLsb'_byte_above, BitVec.or_zero, BitVec.zero_or, TaskFile.get]

/-- The registers that make the addressing extended; hob_features is none of them (R182, conflict C2). -/
def extendingFields : List TfField := .hobSectorCount :: hobLbaPlaces.map Prod.fst

theorem isExtended_set {f : TfField} (hf : f ∈ extendingFields) {d : Byte} (hd : d ≠ 0#8) (t : TaskFile) :
    isExtended (t.set f d) = true := by
  simp only [extendingFields, hobLbaPlaces, List.map_cons, List.map_nil, List.mem_cons, List.not_mem_nil, or_false] at hf
  rcases hf with rfl | rfl | rfl | rfl <;> simp [isExtended, TaskFile.set, hd]

/-- The low byte of the derived sector count is the primary register, extended or not. -/
theorem deriveAddressing_sc_low (t : TaskFile) : (deriveAddressing t).sc.extractLsb' 0 8 = t.sectorCount := by
  unfold deriveAddressing
  split
  · exact extractLsb'_sc16_low t
  · exact extractLsb'_byte_self _ (by decide)

/-- The bank after a cycle that stores, by its entry in R21's table. -/
theorem tf_of_bankWrite {i : Instr} {s t : State} {f : TfField} {d : Byte} (hw : bankWrite i s.hobActive = some (f, d))
    (h : exec i s = .next t) : t.tf = s.tf.set f d := by
  rw [eq_afterCycle h, State.afterCycle_tf, hw]
  rfl

/-! ### Writes under HOB -/

section
variable {i : Instr} {s t : State} {d : Byte}

/-- A nonzero byte stored in the high-order sector count extends the addressing and is its high byte. -/
theorem sc_after_hobWrite (hd : d ≠ 0#8) (hw : bankWrite i s.hobActive = some (.hobSectorCount, d))
    (h : exec i s = .next t) :
    (deriveAddressing t.tf).ext = true ∧ (deriveAddressing t.tf).sc.extractLsb' 8 8 = d := by
  rw [tf_of_bankWrite hw h, deriveAddressing_of_isExtended (isExtended_set (by decide) hd s.tf)]
  exact ⟨rfl, extractLsb'_sc16_high _⟩

/-- A nonzero byte stored in a high-order LBA register extends the addressing and stands in the register's place. -/
theorem lba_after_hobWrite {f : TfField} {k : Nat} (hplace : (f, k) ∈ hobLbaPlaces) (hd : d ≠ 0#8)
    (hw : bankWrite i s.hobActive = some (f, d)) (h : exec i s = .next t) :
    (deriveAddressing t.tf).ext = true ∧ (deriveAddressing t.tf).lba.extractLsb' k 8 = d := by
  have hf : f ∈ extendingFields := List.mem_cons_of_mem _ (List.mem_map_of_mem hplace)
  rw [tf_of_bankWrite hw h, deriveAddressing_of_isExtended (isExtended_set hf hd s.tf)]
  exact ⟨rfl, (extractLsb'_lba48 hplace _).trans (TaskFile.get_set_self _ _ _)⟩

end

/-- Settles O3: Features is no part of the addressing; under HOB a nonzero byte extends it and is read back from its
place in the extended value; the low byte of the sector count is the primary register either way. -/
theorem parameterWritesShapeLaterAddressing : Obligations.ParameterWritesShapeLaterAddressing := by
  refine ⟨fun d s t h => ?features, fun d s t hhob hd h => ?seccnt, fun d s t hhob hd h => ?lba0,
    fun d s t hhob hd h => ?lba1, fun d s t hhob hd h => ?lba2, fun d s t hhob h => ?seccntLow⟩
  case features =>
    rw [tf_of_bankWrite rfl h]
    exact deriveAddressing_set_features _ _ _ (by cases s.hobActive <;> simp)
  case seccnt => exact sc_after_hobWrite hd (by rw [hhob]; rfl) h
  case lba0 => exact lba_after_hobWrite (f := .hobLba0) (by decide) hd (by rw [hhob]; rfl) h
  case lba1 => exact lba_after_hobWrite (f := .hobLba1) (by decide) hd (by rw [hhob]; rfl) h
  case lba2 => exact lba_after_hobWrite (f := .hobLba2) (by decide) hd (by rw [hhob]; rfl) h
  case seccntLow =>
    rw [deriveAddressing_sc_low, tf_of_bankWrite (by rw [hhob]; rfl) h]
    rfl

end Sys2Proof.Machine
end

section
/-! Sequences of bus cycles in the form of R83: what one of them does to the state, and from that the HOB redirection law
over any list of them (R104, R138). -/

namespace Sys2Proof.Machine

/-! ### Delivering samples and cycles in order -/

theorem deliver_cons_of_step {s t : State} {x : Sample} (h : step { s with input := [x] } = .next t) (xs : List Sample) :
    deliver s (x :: xs) = deliver t xs := by
  rw [deliver, h]

theorem deliver_append_of_next {s t : State} {xs : List Sample} (h : deliver s xs = .next t) (ys : List Sample) :
    deliver s (xs ++ ys) = deliver t ys := by
  induction xs generalizing s with
  | nil =>
    cases h
    rfl
  | cons x xs ih =>
    obtain ⟨u, hu, -⟩ := step_deliver s x
    rw [deliver_cons_of_step hu] at h
    rw [List.cons_append, deliver_cons_of_step hu, ih h]

theorem samplesOf_cons (c : BusCycle) (cs : List BusCycle) : samplesOf (c :: cs) = c.samples ++ samplesOf cs :=
  List.flatMap_cons

theorem samplesOf_append (cs ds : List BusCycle) : samplesOf (cs ++ ds) = samplesOf cs ++ samplesOf ds :=
  List.flatMap_append

theorem samplesOf_singleton (c : BusCycle) : samplesOf [c] = c.samples := by
  rw [samplesOf_cons]
  exact List.append_nil _

/-! ### One bus cycle -/

/-- The sample in which the cycle starts. -/
def BusCycle.edge (c : BusCycle) : Sample := edgeSample c.edgeIdx c.word c.dmarq c.intrq

/-- Whether cycles with DMARQ high are dropped: the option is on and DMARQ is wired (R104). -/
def State.squelches (s : State) : Bool := s.squelchDma && s.pres.dmarq

/-- The state after a sample with both strobes high. -/
def State.strobesHigh (s : State) : State :=
  { s with input := [], ed := { prevDiow := true, prevDior := true, havePrev := true }, outcome := some .noEdge }

/-- The state at the edge of a bus cycle: both its samples are consumed, and no cycle has run yet. -/
def State.atEdge (s : State) (c : BusCycle) : State := s.strobesHigh.consume c.edge []

theorem squelched_edge (s : State) (c : BusCycle) : squelched s c.edge = (s.squelches && c.dmarq) := by
  rw [Bool.eq_iff_iff, squelched_iff]
  simp [State.squelches, BusCycle.edge, edgeSample, Sample.ofWord, and_assoc]

/-- The first sample of a bus cycle starts nothing, whatever the sample before was (R101). -/
theorem deliver_samples_eq (s : State) (c : BusCycle) : deliver s c.samples = deliver s.strobesHigh [c.edge] := by
  have hquiet : strobe { s with input := [highSample (c.edgeIdx - 1) c.word c.dmarq c.intrq] }
      (highSample (c.edgeIdx - 1) c.word c.dmarq c.intrq) = none := by
    simp [strobe, fellDiow, fellDior, level, Pres.wired, Sample.line, highSample, Sample.ofWord]
  refine (deliver_cons_of_step (step_of_no_strobe rfl hquiet) [c.edge]).trans ?_
  rw [State.consume, edgeAfter_eq]
  rfl

/-- The second sample starts a cycle of the word's direction. -/
theorem strobe_edge (s : State) (c : BusCycle) (xs : List Sample) :
    strobe { s.strobesHigh with input := xs } c.edge = some (some (wrOf c.word)) :=
  strobe_edgeSample (s := { s.strobesHigh with input := xs }) rfl c.edgeIdx c.word c.dmarq c.intrq

/-- A bus cycle that the squelch drops leaves all but the edge detector, the input port and the outcome (R104). -/
theorem deliver_samples_of_squelched {s : State} {c : BusCycle} (hq : (s.squelches && c.dmarq) = true) :
    deliver s c.samples = .next ((s.atEdge c).withOutcome .squelched) := by
  rw [deliver_samples_eq]
  exact deliver_cons_of_step (step_of_squelched rfl (strobe_edge s c _) ((squelched_edge s c).trans hq)) []

/-- A bus cycle that the squelch lets pass runs the class its word decodes to, from the state at its edge (R100). -/
theorem deliver_samples_of_passed {s : State} {c : BusCycle} (hq : (s.squelches && c.dmarq) = false) :
    deliver s c.samples = .next (((s.atEdge c).latch c.edge).afterCycle (decodeWord c.word)).release := by
  have hword : cycleWord s.pres c.edge (wrOf c.word) = c.word := cycleWord_ofWord _ _ _ _ _ _ _
  rw [deliver_samples_eq, ← hword]
  exact deliver_cons_of_step (step_of_cycle_afterCycle rfl (strobe_edge s c _) ((squelched_edge s c).trans hq)) []

/-! ### The HOB latch over a list of bus cycles -/

theorem hobAfter_cons (squelch hob : Bool) (c : BusCycle) (cs : List BusCycle) :
    hobAfter squelch hob (c :: cs) =
      hobAfter squelch (if squelch && c.dmarq then hob else latchAfter hob (decodeWord c.word)) cs := by
  unfold hobAfter
  rw [List.foldl_cons]
  cases decodeWord c.word <;> rfl

/-- One bus cycle moves the latch as `hobAfter` says, and keeps what decides of the squelch. -/
theorem deliver_samples_latch (s : State) (c : BusCycle) :
    ∃ t, deliver s c.samples = .next t ∧ t.squelches = s.squelches ∧
      t.hobActive = if s.squelches && c.dmarq then s.hobActive else latchAfter s.hobActive (decodeWord c.word) := by
  cases hq : s.squelches && c.dmarq with
  | true => exact ⟨_, deliver_samples_of_squelched hq, rfl, rfl⟩
  | false => exact ⟨_, deliver_samples_of_passed hq, rfl, rfl⟩

/-- The first half of R138, with the frame its second half needs: the squelch is decided alike all along. -/
theorem deliver_samplesOf_latch (cs : List BusCycle) (s : State) :
    ∃ t, deliver s (samplesOf cs) = .next t ∧ t.squelches = s.squelches ∧
      t.hobActive = hobAfter s.squelches s.hobActive cs := by
  induction cs generalizing s with
  | nil => exact ⟨s, rfl, rfl, rfl⟩
  | cons c cs ih =>
    obtain ⟨t, hdel, hsq, hlatch⟩ := deliver_samples_latch s c
    obtain ⟨u, hdel', hsq', hlatch'⟩ := ih t
    refine ⟨u, ?_, hsq'.trans hsq, ?_⟩
    · rw [samplesOf_cons, deliver_append_of_next hdel, hdel']
    · rw [hlatch', hsq, hlatch, ← hobAfter_cons]

/-- Settles O50, by `deliver_samplesOf_latch`: the next cycle that passes stores by the latch it finds. -/
theorem hobRedirectionOverSequences : Obligations.HobRedirectionOverSequences := by
  intro cs s
  obtain ⟨t, hdel, hsq, hlatch⟩ := deliver_samplesOf_latch cs s
  refine ⟨t, hdel, hlatch, fun c hpass => ?_⟩
  have hpass' : (t.squelches && c.dmarq) = false := by rwa [hsq]
  refine ⟨(((t.atEdge c).latch c.edge).afterCycle (decodeWord c.word)).release, ?_, ?_⟩
  · rw [samplesOf_append, samplesOf_singleton, deliver_append_of_next hdel, deliver_samples_of_passed hpass']
  · rw [← State.squelches, ← hlatch]
    rfl

end Sys2Proof.Machine
end

section
/-! The register reads (42_register_reads.md): the records of the read arm, and which reads reach it. -/

namespace Sys2Proof.Machine

/-- The read arm as an update of the state (R164, R170): the record of the read and, where INTRQ is wired and low, the
INTRQ record after it. -/
theorem readArm_next (reg : RegId) (d : Byte) (s : State) :
    readArm reg d s = .next { s with
      out := s.out ++ record s.snap.idx (readRecord reg d).1 (readRecord reg d).2 ::
        (if s.pres.intrq = true ∧ s.snap.intrq = false then [record s.snap.idx .interrupt .intrqCleared] else [])
      outcome := some .dispatched } := by
  have hrecords :
      (if s.pres.intrq && !s.snap.intrq then [Payload.intrqCleared] else []).map
        (fun p => record s.snap.idx (payloadCategory p) p) =
      if s.pres.intrq = true ∧ s.snap.intrq = false then [record s.snap.idx .interrupt .intrqCleared] else [] := by
    cases s.pres.intrq <;> cases s.snap.intrq <;> rfl
  rw [readArm_reported, State.reported, readReport, List.map_cons, hrecords, payloadCategory_readRecord]

/-- Settles O6: both meanings are the read arm itself, which asks no option. -/
theorem statusReadsAreAlwaysReported : Obligations.StatusReadsAreAlwaysReported :=
  fun d s => ⟨readArm_next .status d s, readArm_next .altStatus d s⟩

/-- With `emit_reads` an optional read of a register other than the two Status registers is reported as a RegRead, and
without it the read ends with NoArm (R161). -/
theorem optionalRead_next {reg : RegId} (hstatus : reg ≠ .status) (halt : reg ≠ .altStatus) (d : Byte) (s : State) :
    optionalRead reg d s = .next (if s.emitReads then
      { s with
        out := s.out ++ record s.snap.idx .registerRead (.regRead reg d) ::
          (if s.pres.intrq = true ∧ s.snap.intrq = false then [record s.snap.idx .interrupt .intrqCleared] else [])
        outcome := some .dispatched }
    else { s with outcome := some .noArm }) := by
  have hrecord : readRecord reg d = (.registerRead, .regRead reg d) := if_neg (not_or.2 ⟨hstatus, halt⟩)
  rw [optionalRead_eq]
  split
  · rw [readArm_next, hrecord]
  · rfl

/-- Settles O7: each of the seven meanings is the optional read of its register. -/
theorem otherReadsFollowEmitReads : Obligations.OtherReadsFollowEmitReads := by
  intro d s p hp
  simp only [List.mem_cons, List.not_mem_nil, or_false] at hp
  rcases hp with rfl | rfl | rfl | rfl | rfl | rfl | rfl <;> exact optionalRead_next (by decide) (by decide) d s

end Sys2Proof.Machine
end

section
/-! Derived addressing as arithmetic (R182, R183): the bytes of the bank as the digits of the derived values. -/

namespace Sys2Proof.Machine

/-- A byte put above `k` low bits of value `v` is the next digit of the number. -/
theorem toNat_byteShift_or {n k v : Nat} (b : Byte) {lo : BitVec n} (hlo : lo.toNat = v) (hv : v < 2 ^ k)
    (hk : k + 8 ≤ n) : (b.setWidth n <<< k ||| lo).toNat = 2 ^ k * b.toNat + v := by
  have hb : b.toNat < 2 ^ n := b.isLt.trans_le (Nat.pow_le_pow_right (by decide) (by omega))
  have hshift : 2 ^ k * b.toNat < 2 ^ n :=
    calc 2 ^ k * b.toNat
      _ < 2 ^ k * 2 ^ 8 := Nat.mul_lt_mul_of_pos_left b.isLt (by positivity)
      _ = 2 ^ (k + 8) := (pow_add 2 k 8).symm
      _ ≤ 2 ^ n := Nat.pow_le_pow_right (by decide) hk
  rw [BitVec.toNat_or, BitVec.toNat_shiftLeft, BitVec.toNat_setWidth, Nat.mod_eq_of_lt hb, Nat.shiftLeft_eq,
    Nat.mul_comm, Nat.mod_eq_of_lt hshift, hlo, Nat.two_pow_add_eq_or_of_lt hv]

/-- A byte in the low bits of a word is the number's last digit. -/
theorem toNat_byte {n : Nat} (b : Byte) (hn : 8 ≤ n) : (b.setWidth n).toNat = b.toNat := by
  rw [BitVec.toNat_setWidth, Nat.mod_eq_of_lt (b.isLt.trans_le (Nat.pow_le_pow_right (by decide) hn))]

theorem sc16_toNat (t : TaskFile) : (sc16 t).toNat = 256 * t.hobSectorCount.toNat + t.sectorCount.toNat :=
  toNat_byteShift_or (k := 8) t.hobSectorCount (toNat_byte t.sectorCount (by decide)) t.sectorCount.isLt (by decide)

/-- The low 24 bits of both LBA forms: the three primary registers (R55). -/
def lbaLow (t : TaskFile) : BitVec 48 :=
  t.lba2.setWidth 48 <<< 16 ||| (t.lba1.setWidth 48 <<< 8 ||| t.lba0.setWidth 48)

theorem lbaLow_toNat (t : TaskFile) :
    (lbaLow t).toNat = 2 ^ 16 * t.lba2.toNat + (2 ^ 8 * t.lba1.toNat + t.lba0.toNat) := by
  have hlba0 := t.lba0.isLt
  have hlba1 := t.lba1.isLt
  have h8 := toNat_byteShift_or (k := 8) t.lba1 (toNat_byte (n := 48) t.lba0 (by decide)) hlba0 (by decide)
  exact toNat_byteShift_or t.lba2 h8 (by omega) (by decide)

theorem lba28_toNat (t : TaskFile) :
    (lba28 t).toNat =
      2 ^ 24 * (t.device.toNat % 16) + 2 ^ 16 * t.lba2.toNat + 2 ^ 8 * t.lba1.toNat + t.lba0.toNat := by
  have hform : lba28 t = (t.device &&& Config.devHeadMask).setWidth 48 <<< 24 ||| lbaLow t := by
    simp only [lba28, lbaLow, BitVec.or_assoc]
  have hhead : (t.device &&& Config.devHeadMask).toNat = t.device.toNat % 16 :=
    (BitVec.toNat_and ..).trans (Nat.and_two_pow_sub_one_eq_mod _ 4)
  rw [hform, toNat_byteShift_or _ (lbaLow_toNat t) (by omega) (by decide), hhead]
  omega

theorem lba48_toNat (t : TaskFile) :
    (lba48 t).toNat =
      2 ^ 40 * t.hobLba2.toNat + 2 ^ 32 * t.hobLba1.toNat + 2 ^ 24 * t.hobLba0.toNat +
      2 ^ 16 * t.lba2.toNat + 2 ^ 8 * t.lba1.toNat + t.lba0.toNat := by
  have hform : lba48 t = t.hobLba2.setWidth 48 <<< 40 |||
      (t.hobLba1.setWidth 48 <<< 32 ||| (t.hobLba0.setWidth 48 <<< 24 ||| lbaLow t)) := by
    simp only [lba48, lbaLow, BitVec.or_assoc]
  have h24 := toNat_byteShift_or (k := 24) t.hobLba0 (lbaLow_toNat t) (by omega) (by decide)
  have h32 := toNat_byteShift_or (k := 32) t.hobLba1 h24 (by omega) (by decide)
  rw [hform, toNat_byteShift_or t.hobLba2 h32 (by omega) (by decide)]
  omega

/-- `ext` is the test of the four high-order registers (R182). -/
theorem deriveAddressing_ext (t : TaskFile) : (deriveAddressing t).ext = isExtended t := by
  unfold deriveAddressing
  split <;> simp [*]

theorem isExtended_iff (t : TaskFile) : isExtended t = true ↔
    t.hobSectorCount ≠ 0#8 ∨ t.hobLba0 ≠ 0#8 ∨ t.hobLba1 ≠ 0#8 ∨ t.hobLba2 ≠ 0#8 := by
  simp [isExtended, or_assoc]

/-- With all four high-order registers zero the addressing is the plain one. -/
theorem deriveAddressing_of_not_isExtended {t : TaskFile} (h : isExtended t = false) :
    deriveAddressing t = { mode := addrMode t, sc := t.sectorCount.setWidth 16, lba := lba28 t, ext := false } :=
  if_neg (Bool.eq_false_iff.1 h)

/-- Settles O12: the values of either form are the numbers whose digits are the bank's bytes. -/
theorem deriveAddressingIsPositional : Obligations.DeriveAddressingIsPositional := by
  intro t
  rw [deriveAddressing_ext]
  refine ⟨deriveAddressing_mode t, isExtended_iff t, fun hext => ?_, fun hplain => ?_⟩
  · rw [deriveAddressing_of_isExtended hext]
    exact ⟨sc16_toNat t, lba48_toNat t⟩
  · rw [deriveAddressing_of_not_isExtended hplain]
    exact ⟨toNat_byte t.sectorCount (by decide), lba28_toNat t⟩

/-- Settles O13: the plain values are in range, and neither `ext` nor the 48-bit LBA reads the Device register. -/
theorem derivedAddressingBounds : Obligations.DerivedAddressingBounds := by
  refine ⟨fun t hplain => deriveAddressing_plain_bounds hplain, fun t d hext => ?_⟩
  rw [deriveAddressing_ext] at hext
  have hext' : isExtended { t with device := d } = true := hext
  rw [deriveAddressing_of_isExtended hext, deriveAddressing_of_isExtended hext']
  exact ⟨rfl, rfl⟩

end Sys2Proof.Machine
end

section
/-! The Data register and the Command register (43_command_and_cdb.md): what each cycle answers, the transition table of
the CDB FSM, and the end of a capture (R180, R181, R190 to R195). -/

namespace Sys2Proof.Machine

/-- Settles O10: the write is its entry of `exec_eq`, whose report is the one Command record. -/
theorem commandWriteReportsTheBank : Obligations.CommandWriteReportsTheBank :=
  fun op s => exec_eq s (.commandW op)

/-- Settles O11: the command is its entry of `exec_eq`, whose capture is the empty one from any state. -/
theorem packetCommandStartsOrRestartsCapture : Obligations.PacketCommandStartsOrRestartsCapture :=
  fun s => exec_eq s .commandPacketW

/-! ### The capture and the report of a Data write, by the FSM's state and parsing (R190) -/

/-- The payload of byte number `n` of a CDB; the first byte is named (R196). -/
def cdbBytePayload (tb : Tables) (n : Nat) (d : Byte) : Payload :=
  .cdbByte n d (if n = 0 then some (resolveCdb tb d) else none)

section
variable {s : State} {d : Byte}

theorem captureAfter_dataW_of_collects (hactive : s.cdb.active = true) (hparse : s.parseCdb = true) :
    captureAfter s (.dataW d) = { s.cdb with
      active := s.cdb.collected.length + 1 != s.cdb.expectedLength
      collected := s.cdb.collected ++ [d] } := by
  simp [captureAfter, hactive, hparse]

/-- A Data write that is not collected leaves the capture (R192). -/
theorem captureAfter_dataW_of_keeps (h : ¬(s.cdb.active = true ∧ s.parseCdb = true)) :
    captureAfter s (.dataW d) = s.cdb := by
  rw [captureAfter, if_neg (by rwa [Bool.and_eq_true])]

theorem cycleReport_dataW_of_collects (hactive : s.cdb.active = true) (hparse : s.parseCdb = true) :
    cycleReport s (.dataW d) = collectReport d s := by
  rw [cycleReport, if_pos hactive, if_pos hparse]

theorem cycleReport_dataW_of_marks (hactive : s.cdb.active = true) (hparse : s.parseCdb ≠ true) :
    cycleReport s (.dataW d) = (.dispatched, [.cdbMarker d]) := by
  rw [cycleReport, if_pos hactive, if_neg hparse]

theorem cycleReport_dataW_of_idle (hidle : s.cdb.active ≠ true) :
    cycleReport s (.dataW d) = dataRawReport .write d s := by
  rw [cycleReport, if_neg hidle]

/-- The byte that completes the capture brings the completion with it (R194). -/
theorem collectReport_of_last (h : s.cdb.collected.length + 1 = s.cdb.expectedLength) :
    collectReport d s = (.dispatched, [cdbBytePayload s.tables s.cdb.collected.length d,
      .cdbComplete (s.cdb.collected ++ [d])]) := by
  rw [collectReport, if_pos h, cdbBytePayload]

theorem collectReport_of_more (h : s.cdb.collected.length + 1 ≠ s.cdb.expectedLength) :
    collectReport d s = (.dispatched, [cdbBytePayload s.tables s.cdb.collected.length d]) := by
  rw [collectReport, if_neg h, cdbBytePayload]

theorem dataRawReport_payloads (dir : Dir) (d : Byte) (s : State) :
    (dataRawReport dir d s).2 = if s.ignoreData then [] else [.dataRaw dir d] := by
  unfold dataRawReport
  split <;> rfl

end

/-- A Data access that no other rule takes, in the state's own fields (R190, R191). -/
theorem dataRaw_next (dir : Dir) (d : Byte) (s : State) :
    (if s.ignoreData then discard .ignoredData s
      else finish .dispatched (s.emit (payloadCategory (.dataRaw dir d)) (.dataRaw dir d))) =
      .next (if s.ignoreData then { s with outcome := some .ignoredData }
        else { s with
          out := s.out ++ [record s.snap.idx (payloadCategory (.dataRaw dir d)) (.dataRaw dir d)]
          outcome := some .dispatched }) := by
  split <;> rfl

/-- Settles O8: with `emit_reads` the meaning is the read arm, and without it the raw access. -/
theorem dataReadFollowsOptions : Obligations.DataReadFollowsOptions := by
  intro d s
  rw [exec, execDataR]
  split
  · exact readArm_next .data d s
  · exact dataRaw_next .read d s

/-- Settles O9: a byte of a capture is collected or marked, and any other is a raw access. -/
theorem dataWriteCollectsMarksOrReports : Obligations.DataWriteCollectsMarksOrReports := by
  intro d s
  rw [exec, execDataW]
  split
  · next hactive =>
    split
    · next hparse =>
      rw [collectByte_afterCycle s d hactive hparse, State.afterCycle, captureAfter_dataW_of_collects hactive hparse,
        cycleReport_dataW_of_collects hactive hparse]
      split
      · next hlast =>
        rw [collectReport_of_last hlast, hlast, bne_self_eq_false]
        rfl
      · next hmore =>
        rw [collectReport_of_more hmore, bne_iff_ne.2 hmore, ← hactive]
        rfl
    · rfl
  · exact dataRaw_next .write d s

/-! ### The transition table of the FSM (R192) -/

/-- The payloads on the output after a cycle are those before it and then its report's. -/
theorem payloads_afterCycle (s : State) (i : Instr) :
    (s.afterCycle i).out.map Ann.payload = s.out.map Ann.payload ++ (cycleReport s i).2 := by
  rw [State.afterCycle_out, List.map_append, List.map_map]
  exact congrArg (s.out.map Ann.payload ++ ·) (List.map_id _)

/-- Settles O37: row by row, from the capture and the report that `exec_eq` gives the cycle. -/
theorem cdbFsmTransitions : Obligations.CdbFsmTransitions := by
  intro i s t hcap h
  obtain rfl := eq_afterCycle h
  cases i with
  | commandPacketW => exact ⟨rfl, rfl, payloads_afterCycle s .commandPacketW⟩
  | dataW d =>
    obtain ⟨hexp, -⟩ := s.captureOk_iff.1 hcap
    simp only [State.afterCycle_cdb, payloads_afterCycle]
    split
    · next hcollects =>
      obtain ⟨hactive, hparse⟩ := hcollects
      rw [cycleReport_dataW_of_collects hactive hparse, captureAfter_dataW_of_collects hactive hparse]
      split
      · next hlast => simp [collectReport_of_last, cdbBytePayload, hlast, hexp]
      · next hmore =>
        have hne : s.cdb.collected.length + 1 ≠ s.cdb.expectedLength := by omega
        rw [collectReport_of_more hne]
        exact ⟨bne_iff_ne.2 hne, rfl, _, rfl⟩
    · next hkeeps =>
      rw [captureAfter_dataW_of_keeps hkeeps]
      split
      · next hactive =>
        rw [cycleReport_dataW_of_marks hactive (not_and.1 hkeeps hactive)]
        exact ⟨rfl, rfl⟩
      · next hidle =>
        rw [cycleReport_dataW_of_idle hidle, dataRawReport_payloads]
        exact ⟨rfl, rfl⟩
  | _ => rfl

/-- Settles O38: every cycle keeps the capture well-formed, and the write that finds eleven bytes is the first branch of
O9. -/
theorem captureEndsWithTheTwelfthByte : Obligations.CaptureEndsWithTheTwelfthByte := by
  intro d s t hcap h
  refine ⟨fun hactive => ?_, fun hactive hparse hlast => ?_⟩
  · have hcap' : t.captureOk = true := by
      rw [eq_afterCycle h]
      exact captureOk_afterCycle hcap (.dataW d)
    obtain ⟨-, hroom⟩ := t.captureOk_iff.1 hcap'
    exact (hroom hactive).1
  · obtain ⟨hexp, -⟩ := s.captureOk_iff.1 hcap
    have hnext := dataWriteCollectsMarksOrReports d s
    rw [if_pos hactive, if_pos hparse, if_pos (by rw [hlast, hexp]), hlast] at hnext
    cases h.symm.trans hnext
    exact ⟨rfl, rfl⟩

/-! ### Parsing off (R195) -/

/-- With parsing off only a PACKET command changes the capture. -/
theorem captureAfter_of_not_parsing {s : State} (hparse : s.parseCdb = false) {i : Instr} (hi : i ≠ .commandPacketW) :
    captureAfter s i = s.cdb := by
  cases i with
  | commandPacketW => exact absurd rfl hi
  | dataW d => exact captureAfter_dataW_of_keeps (by simp [hparse])
  | _ => rfl

theorem execAll_cons (s : State) (i : Instr) (is : List Instr) : execAll s (i :: is) = execAll (s.afterCycle i) is := by
  rw [execAll, exec_eq]

/-- Settles O52, by induction on the cycles: a PACKET command empties the capture, every other cycle leaves it. -/
theorem captureWithoutParsingNeverEnds : Obligations.CaptureWithoutParsingNeverEnds := by
  intro is
  induction is with
  | nil => exact fun s _ hactive => ⟨s, rfl, hactive, rfl⟩
  | cons i is ih =>
    intro s hparse hactive
    rw [execAll_cons]
    by_cases hi : i = .commandPacketW
    · subst hi
      obtain ⟨t, hrun, htactive, hbytes⟩ := ih (s.afterCycle .commandPacketW) hparse rfl
      refine ⟨t, hrun, htactive, hbytes.trans ?_⟩
      rw [if_pos List.mem_cons_self]
      exact ite_self []
    · have hcdb : (s.afterCycle i).cdb = s.cdb := captureAfter_of_not_parsing hparse hi
      obtain ⟨t, hrun, htactive, hbytes⟩ := ih (s.afterCycle i) hparse (by rwa [hcdb])
      refine ⟨t, hrun, htactive, hbytes.trans ?_⟩
      rw [hcdb]
      simp [Ne.symm hi]

end Sys2Proof.Machine
end

section
/-! A whole CDB on the bus lines (R196, R198): the PACKET command, the twelve Data writes of its capture, and the write
after them. -/

namespace Sys2Proof.Machine

/-- Waiting for byte number `bytes.length` of a CDB with parsing on: the FSM's state CapturingCdb (R25), with the bytes
it has collected. -/
structure State.CapturingCdb (s : State) (bytes : List Byte) : Prop where
  parse : s.parseCdb = true
  cdb : s.cdb = { active := true, collected := bytes, expectedLength := 12 }

/-- A Data write that the squelch lets pass (R104). -/
structure BusCycle.DataWrite (c : BusCycle) : Prop where
  decodes : decodeWord c.word = .dataW (dOf c.word)
  dmarqLow : c.dmarq = false

/-- A register write on the bus with DMARQ low: the capture and the payloads after it are those of its cycle, which
reads neither the edge detector nor the snapshot. -/
theorem deliver_samples_of_write {s : State} {c : BusCycle} {i : Instr} (hi : decodeWord c.word = i)
    (hwrite : isRead i = false) (hlow : c.dmarq = false) :
    ∃ t, deliver s c.samples = .next t ∧ t.cfg = s.cfg ∧ t.tables = s.tables ∧ t.cdb = captureAfter s i ∧
      t.out.map Ann.payload = s.out.map Ann.payload ++ (cycleReport s i).2 := by
  have hcapture : captureAfter ((s.atEdge c).latch c.edge) i = captureAfter s i := by cases i <;> rfl
  have hreport : cycleReport ((s.atEdge c).latch c.edge) i = cycleReport s i := by
    cases i with
    | dataR | errorR | seccntR | lba0R | lba1R | lba2R | deviceR | statusR | altstatusR | drvaddrR => cases hwrite
    | _ => rfl
  refine ⟨_, deliver_samples_of_passed (by simp [hlow]), rfl, rfl, ?_, ?_⟩
  · rw [hi, ← hcapture]
    rfl
  · rw [hi, ← hreport]
    exact payloads_afterCycle ((s.atEdge c).latch c.edge) i

section
variable {s : State} {c : BusCycle} {bytes : List Byte}

/-- A PACKET command on the bus starts the capture and reports itself (R181). -/
theorem deliver_packet (hparse : s.parseCdb = true) (hword : c.word = 0x283D#14) (hlow : c.dmarq = false) :
    ∃ t, deliver s c.samples = .next t ∧ t.cfg = s.cfg ∧ t.tables = s.tables ∧ t.CapturingCdb [] ∧
      t.out.map Ann.payload = s.out.map Ann.payload ++ [commandPayload s 0xA0#8] := by
  have hpacket : decodeWord c.word = .commandPacketW := by
    rw [hword]
    decide
  obtain ⟨t, hdel, hcfg, htables, hcdb, hout⟩ := deliver_samples_of_write (s := s) hpacket rfl hlow
  exact ⟨t, hdel, hcfg, htables, ⟨by rwa [State.parseCdb, hcfg], hcdb⟩, hout⟩

/-- A Data write in a capture that has room for more: the byte is collected and reported (R190). -/
theorem deliver_dataWrite_of_more (hs : s.CapturingCdb bytes) (hc : c.DataWrite) (hmore : bytes.length + 1 < 12) :
    ∃ t, deliver s c.samples = .next t ∧ t.cfg = s.cfg ∧ t.tables = s.tables ∧
      t.CapturingCdb (bytes ++ [dOf c.word]) ∧
      t.out.map Ann.payload = s.out.map Ann.payload ++ [cdbBytePayload s.tables bytes.length (dOf c.word)] := by
  obtain ⟨hparse, hcap⟩ := hs
  have hactive : s.cdb.active = true := by rw [hcap]
  have hne : s.cdb.collected.length + 1 ≠ s.cdb.expectedLength := by
    rw [hcap]
    exact hmore.ne
  obtain ⟨t, hdel, hcfg, htables, hcdb, hout⟩ := deliver_samples_of_write (s := s) hc.decodes rfl hc.dmarqLow
  rw [captureAfter_dataW_of_collects hactive hparse, bne_iff_ne.2 hne, hcap] at hcdb
  rw [cycleReport_dataW_of_collects hactive hparse, collectReport_of_more hne, hcap] at hout
  exact ⟨t, hdel, hcfg, htables, ⟨by rwa [State.parseCdb, hcfg], hcdb⟩, hout⟩

/-- The Data write with the twelfth byte ends the capture and completes it (R194). -/
theorem deliver_dataWrite_of_last (hs : s.CapturingCdb bytes) (hc : c.DataWrite) (hlast : bytes.length + 1 = 12) :
    ∃ t, deliver s c.samples = .next t ∧ t.cfg = s.cfg ∧ t.cdb.active = false ∧
      t.out.map Ann.payload = s.out.map Ann.payload ++
        [cdbBytePayload s.tables bytes.length (dOf c.word), .cdbComplete (bytes ++ [dOf c.word])] := by
  obtain ⟨hparse, hcap⟩ := hs
  have hactive : s.cdb.active = true := by rw [hcap]
  have heq : s.cdb.collected.length + 1 = s.cdb.expectedLength := by
    rw [hcap]
    exact hlast
  obtain ⟨t, hdel, hcfg, -, hcdb, hout⟩ := deliver_samples_of_write (s := s) hc.decodes rfl hc.dmarqLow
  rw [captureAfter_dataW_of_collects hactive hparse, heq, bne_self_eq_false] at hcdb
  rw [cycleReport_dataW_of_collects hactive hparse, collectReport_of_last heq, hcap] at hout
  exact ⟨t, hdel, hcfg, by rw [hcdb], hout⟩

/-- A Data write in Idle stays in Idle and is a raw access (R190). -/
theorem deliver_dataWrite_of_idle (hidle : s.cdb.active = false) (hc : c.DataWrite) :
    ∃ t, deliver s c.samples = .next t ∧ t.cdb.active = false ∧
      t.out.map Ann.payload = s.out.map Ann.payload ++
        (if s.ignoreData then [] else [.dataRaw .write (dOf c.word)]) := by
  obtain ⟨t, hdel, -, -, hcdb, hout⟩ := deliver_samples_of_write (s := s) hc.decodes rfl hc.dmarqLow
  rw [captureAfter_dataW_of_keeps (by simp [hidle])] at hcdb
  rw [cycleReport_dataW_of_idle (by simp [hidle]), dataRawReport_payloads] at hout
  exact ⟨t, hdel, by rw [hcdb, hidle], hout⟩

end

/-- The Data writes that fill a capture, from any number of bytes collected before: each brings its record with its
index, and the last the completion and the end. -/
theorem deliver_rest_of_cdb (cs : List BusCycle) {s : State} {bytes : List Byte} (hs : s.CapturingCdb bytes)
    (hcs : ∀ c ∈ cs, c.DataWrite) (hroom : bytes.length < 12) (hfill : bytes.length + cs.length = 12) :
    ∃ t, deliver s (samplesOf cs) = .next t ∧ t.cfg = s.cfg ∧ t.cdb.active = false ∧
      t.out.map Ann.payload = s.out.map Ann.payload ++
        cs.mapIdx (fun n c => cdbBytePayload s.tables (bytes.length + n) (dOf c.word)) ++
        [.cdbComplete (bytes ++ cs.map fun c => dOf c.word)] := by
  induction cs generalizing s bytes with
  | nil => exact absurd hfill hroom.ne
  | cons c cs ih =>
    obtain ⟨hc, hcs⟩ := List.forall_mem_cons.1 hcs
    rw [List.length_cons] at hfill
    by_cases hlast : bytes.length + 1 = 12
    · obtain rfl : cs = [] := List.eq_nil_of_length_eq_zero (by omega)
      obtain ⟨t, hdel, hcfg, hidle, hout⟩ := deliver_dataWrite_of_last hs hc hlast
      exact ⟨t, by rwa [samplesOf_singleton], hcfg, hidle, by simp [hout]⟩
    · obtain ⟨t, hdel, hcfg, htables, ht, hout⟩ := deliver_dataWrite_of_more hs hc (by omega)
      have hlength : (bytes ++ [dOf c.word]).length = bytes.length + 1 := List.length_append
      obtain ⟨u, hdel', hcfg', hidle, hout'⟩ := ih ht hcs (by omega) (by omega)
      refine ⟨u, ?_, hcfg'.trans hcfg, hidle, ?_⟩
      · rw [samplesOf_cons, deliver_append_of_next hdel, hdel']
      · rw [hout', hout, htables]
        simp [List.mapIdx_cons, Nat.add_assoc, Nat.add_comm 1]

/-- Settles O51: the command opens an empty capture, twelve Data writes fill it, and the next write finds Idle. -/
theorem cdbCaptureOverSequences : Obligations.CdbCaptureOverSequences := by
  intro s c0 cs hparse hword hlength hdata hlow0 hlow
  have hcs : ∀ c ∈ cs, c.DataWrite := fun c hc => ⟨hdata c hc, hlow c hc⟩
  obtain ⟨t0, hdel0, hcfg0, htables0, ht0, hout0⟩ := deliver_packet hparse hword hlow0
  obtain ⟨t, hdel, hcfg, hidle, hout⟩ := deliver_rest_of_cdb cs ht0 hcs (by decide) (by simpa using hlength)
  have hrun : deliver s (samplesOf (c0 :: cs)) = .next t := by
    rw [samplesOf_cons, deliver_append_of_next hdel0, hdel]
  refine ⟨t, hrun, hidle, ?_, fun c hdec hclow => ?_⟩
  · rw [hout, hout0, htables0]
    simp [cdbBytePayload]
  · obtain ⟨u, hdel', hidle', hout'⟩ := deliver_dataWrite_of_idle hidle ⟨hdec, hclow⟩
    refine ⟨u, ?_, hidle', ?_⟩
    · rw [samplesOf_append, samplesOf_singleton, deliver_append_of_next hrun, hdel']
    · have hignore : t.ignoreData = s.ignoreData := by rw [State.ignoreData, hcfg, hcfg0, State.ignoreData]
      rw [hout', hignore]

end Sys2Proof.Machine
end

section
/-! The records of the output port (44_annotations.md): what one step appends, the names that the tables resolve, and
the text of a Command record. -/

namespace Sys2Proof.Machine

/-! ### What a step appends (R220, R221, R238) -/

/-- The output after a step: at most two records of the sample consumed come after the old ones, none a warning. -/
theorem step_appends_records {s t : State} {x : Sample} {rest : List Sample} (hi : s.input = x :: rest)
    (h : step s = .next t) :
    ∃ rs, t.out = s.out ++ rs ∧ rs.length ≤ 2 ∧ ∀ a ∈ rs, ∃ c p, c ≠ .warning ∧ a = record x.idx c p :=
  (step_cycleFrame hi h).out

/-- Settles O41: the records a step appends are built by `record`, which sets both samples. -/
theorem stepAppendsAtMostTwoRecords : Obligations.StepAppendsAtMostTwoRecords := by
  intro s t x rest hi h
  obtain ⟨rs, hout, hlen, hrs⟩ := step_appends_records hi h
  refine ⟨rs, hout, hlen, fun a ha => ?_⟩
  obtain ⟨c, p, -, rfl⟩ := hrs a ha
  exact ⟨rfl, rfl, le_annEnd x.idx⟩

/-- Settles O42: a record of the new output is an old one or one that the step appended. -/
theorem noStepEmitsAWarning : Obligations.NoStepEmitsAWarning := by
  intro s t h hold a ha
  obtain ⟨x, rest, hi, -⟩ := step_cases s t h
  obtain ⟨rs, hout, -, hrs⟩ := step_appends_records hi h
  rw [hout] at ha
  rcases List.mem_append.1 ha with ha | ha
  · exact hold a ha
  · obtain ⟨c, p, hc, rfl⟩ := hrs a ha
    exact hc

/-! ### The name tables (R232, R233) -/

theorem stdCmd_readSectors (tb : Tables) : stdCmd tb 0x20#8 = some "READ SECTORS" := if_pos rfl

theorem stdCmd_of_ne (tb : Tables) {op : Byte} (h : op ≠ 0x20#8) : stdCmd tb op = tb.stdCmd.lookup op := if_neg h

theorem resolveCmd_eq (tb : Tables) (op : Byte) :
    resolveCmd tb op = ((tb.cusCmd.lookup op).or (stdCmd tb op)).getD "UNKNOWN" := by
  unfold resolveCmd
  cases tb.cusCmd.lookup op with
  | some n => rfl
  | none => cases stdCmd tb op <;> rfl

theorem resolveCdb_eq (tb : Tables) (b : Byte) :
    resolveCdb tb b = ((tb.cusCdb.lookup b).or (tb.stdCdb.lookup b)).getD "SCSI CDB" := by
  unfold resolveCdb
  cases tb.cusCdb.lookup b with
  | some n => rfl
  | none => cases tb.stdCdb.lookup b <;> rfl

/-- Settles O14: the first table with an entry gives the name, and 0x20 alone is fixed in the standard table. -/
theorem commandNameResolution : Obligations.CommandNameResolution := by
  intro tb op
  refine ⟨fun n hcus => ?_, fun n hcus hstd => ?_, fun hcus hstd => ?_, stdCmd_readSectors tb, stdCmd_of_ne tb⟩
  · rw [resolveCmd_eq, hcus, Option.some_or, Option.getD_some]
  · rw [resolveCmd_eq, hcus, hstd, Option.none_or, Option.getD_some]
  · rw [resolveCmd_eq, hcus, hstd, Option.none_or, Option.getD_none]

/-- Settles O15: the first table with an entry gives the name. -/
theorem cdbNameResolution : Obligations.CdbNameResolution := by
  intro tb b
  refine ⟨fun n hcus => ?_, fun n hcus hstd => ?_, fun hcus hstd => ?_⟩
  · rw [resolveCdb_eq, hcus, Option.some_or, Option.getD_some]
  · rw [resolveCdb_eq, hcus, hstd, Option.none_or, Option.getD_some]
  · rw [resolveCdb_eq, hcus, hstd, Option.none_or, Option.getD_none]

/-! ### The text of a Command record (R236) -/

/-- With no custom entry, opcode 0x20 has the one name the source fixes. -/
theorem resolveCmd_readSectors {tb : Tables} (h : tb.cusCmd.lookup 0x20#8 = none) :
    resolveCmd tb 0x20#8 = "READ SECTORS" := by
  rw [resolveCmd_eq, h, stdCmd_readSectors, Option.none_or, Option.getD_some]

/-- With no table entry given, every other opcode is unknown. -/
theorem resolveCmd_noTables {op : Byte} (h : op ≠ 0x20#8) : resolveCmd {} op = "UNKNOWN" := by
  rw [resolveCmd_eq, stdCmd_of_ne _ h]
  rfl

/-- Settles O16: the name by R232 and the addressing by R182 first, plain in the first text and extended in the second;
what is left is the layout of the text. -/
theorem commandTextOfWorkedExamples : Obligations.CommandTextOfWorkedExamples := by
  constructor
  · rw [resolveCmd_readSectors rfl, deriveAddressing_of_not_isExtended (by decide)]
    decide
  · rw [resolveCmd_noTables (by decide), deriveAddressing_of_isExtended (by decide)]
    decide

end Sys2Proof.Machine
end

section
/-! Outcome codes (60_exceptions.md): every cycle and every step answers, a silent code stands for a step that changes
nothing, and the first condition that ends a cycle gives its code (R240, R243, R244). -/

namespace Sys2Proof.Machine

/-- Settles O32: `exec_eq` names the state every meaning answers, and a sample to consume is one for a step. -/
theorem everyStepIsTotal : Obligations.EveryStepIsTotal := by
  refine ⟨fun i s => ⟨_, exec_eq s i⟩, fun s hne => ?_⟩
  obtain ⟨x, rest, hi⟩ := List.exists_cons_of_ne_nil hne
  exact step_next_of_input hi

/-! ### The ways a cycle ends (R240) -/

/-- Whether a class is a register access: all but the four NONE classes (R77). -/
def accessesRegister : Instr → Bool
  | .noneCtl03 _ _ _ | .noneCtl45 _ _ _ | .noneBothSel _ _ _ | .noneNoSel _ _ _ => false
  | _ => true

section
variable {s : State}

@[simp] theorem State.afterCycle_outcome (s : State) (i : Instr) :
    (s.afterCycle i).outcome = some (cycleReport s i).1 := rfl

/-- A cycle that addresses no register sets its code and does nothing else (R106). -/
theorem afterCycle_of_no_register {i : Instr} (h : accessesRegister i = false) :
    s.afterCycle i = s.withOutcome .unrecognized := by
  cases i with
  | noneCtl03 | noneCtl45 | noneBothSel | noneNoSel => exact s.reported_nil _
  | _ => cases h

theorem optionalReadReport_cases (reg : RegId) (d : Byte) (s : State) :
    (optionalReadReport reg d s).1 = .dispatched ∨ optionalReadReport reg d s = (.noArm, []) := by
  unfold optionalReadReport
  split
  · exact .inl rfl
  · exact .inr rfl

theorem dataRawReport_cases (dir : Dir) (d : Byte) (s : State) :
    (dataRawReport dir d s).1 = .dispatched ∨ dataRawReport dir d s = (.ignoredData, []) := by
  unfold dataRawReport
  split
  · exact .inr rfl
  · exact .inl rfl

/-- A Data read is reported, or ignored with no record (R191). -/
theorem cycleReport_dataR_cases (d : Byte) (s : State) :
    (cycleReport s (.dataR d)).1 = .dispatched ∨ cycleReport s (.dataR d) = (.ignoredData, []) := by
  rw [cycleReport]
  split
  · exact .inl rfl
  · exact dataRawReport_cases .read d s

/-- A Data write with no capture active is raw, and leaves the capture (R190). -/
theorem afterCycle_dataW_of_idle {d : Byte} (hidle : s.cdb.active ≠ true) :
    s.afterCycle (.dataW d) = s.reported (dataRawReport .write d s) := by
  rw [State.afterCycle, cycleReport_dataW_of_idle hidle, captureAfter_dataW_of_keeps fun h => hidle h.1]
  rfl

/-- A cycle that accesses a register is reported as Dispatched or Restarted, or sets its code and does nothing else
(R240). -/
theorem afterCycle_of_register {i : Instr} (h : accessesRegister i = true) :
    (cycleReport s i).1 = .dispatched ∨ (cycleReport s i).1 = .restarted ∨
    s.afterCycle i = s.withOutcome .noArm ∨ s.afterCycle i = s.withOutcome .ignoredData := by
  have hread {j : Instr} {c : OutcomeCode} (hj : isRead j = true) (hr : cycleReport s j = (c, [])) :
      s.afterCycle j = s.withOutcome c := by
    rw [afterCycle_of_isRead s hj, hr, State.reported_nil]
  cases i with
  | featuresW | seccntW | lba0W | lba1W | lba2W | deviceW | commandW | devctlW | statusR | altstatusR => exact .inl rfl
  | commandPacketW =>
    rw [cycleReport]
    split
    · exact .inr (.inl rfl)
    · exact .inl rfl
  | dataW d =>
    by_cases hactive : s.cdb.active = true
    · left
      rw [cycleReport, if_pos hactive]
      split <;> rfl
    · rw [afterCycle_dataW_of_idle hactive, cycleReport_dataW_of_idle hactive]
      refine (dataRawReport_cases .write d s).imp_right fun hr => .inr (.inr ?_)
      rw [hr, State.reported_nil]
  | dataR d => exact (cycleReport_dataR_cases d s).imp_right fun hr => .inr (.inr (hread rfl hr))
  | errorR d | seccntR d | lba0R d | lba1R d | lba2R d | deviceR d | drvaddrR d =>
    exact (optionalReadReport_cases _ d s).imp_right fun hr => .inr (.inl (hread rfl hr))
  | drvaddrW => exact .inr (.inr (.inl (s.reported_nil _)))
  | noneCtl03 | noneCtl45 | noneBothSel | noneNoSel => cases h

/-- A cycle that ends with any other code than Dispatched and Restarted sets it and does nothing else. -/
theorem afterCycle_of_silent {i : Instr} (hdispatched : (s.afterCycle i).outcome ≠ some .dispatched)
    (hrestarted : (s.afterCycle i).outcome ≠ some .restarted) : ∃ c, s.afterCycle i = s.withOutcome c := by
  cases hreg : accessesRegister i with
  | false => exact ⟨_, afterCycle_of_no_register hreg⟩
  | true =>
    rcases afterCycle_of_register (s := s) hreg with hcode | hcode | heq | heq
    · exact absurd (congrArg some hcode) hdispatched
    · exact absurd (congrArg some hcode) hrestarted
    · exact ⟨_, heq⟩
    · exact ⟨_, heq⟩

/-- The codes of a cycle that accesses a register (R244). -/
theorem outcome_afterCycle_of_register {i : Instr} (h : accessesRegister i = true) :
    (s.afterCycle i).outcome ∈ [some OutcomeCode.dispatched, some .noArm, some .ignoredData, some .restarted] := by
  rcases afterCycle_of_register (s := s) h with hcode | hcode | heq | heq
  · simp [hcode]
  · simp [hcode]
  · simp [heq]
  · simp [heq]

end

/-- Settles O40: a step that runs no cycle only consumes its sample, and one whose cycle has a silent code adds that
code. -/
theorem silentOutcomesChangeNothing : Obligations.SilentOutcomesChangeNothing := by
  intro s t h
  obtain ⟨x, rest, -, ⟨-, c, rfl⟩ | ⟨i, -, rfl⟩⟩ := step_runs_nextCycle h
  · exact ⟨rfl, fun _ _ => ⟨rfl, rfl, rfl, rfl⟩⟩
  · refine ⟨rfl, fun hdispatched hrestarted => ?_⟩
    obtain ⟨c, hc⟩ := afterCycle_of_silent hdispatched hrestarted
    rw [hc]
    exact ⟨rfl, rfl, rfl, rfl⟩

/-! ### The classes of the decoder against the classifier (R105, R106) -/

/-- Both classes of a Command write access its register (R75). -/
theorem accessesRegister_command (d : Byte) : accessesRegister (decodeCommandBlock true 7#3 d) = true := by
  by_cases hd : d = Config.packetOpcode <;> simp [decodeCommandBlock, accessesRegister, hd]

/-- The decoder gives a NONE class where the classifier answers `None`; the direction of the cycle makes no difference
to that, so the write's answer stands for both. -/
theorem accessesRegister_joinFields (d : Byte) (da : BitVec 3) (cs1n cs0n wr : Bool) :
    accessesRegister (decodeWord (joinFields d da cs1n cs0n wr)) = (classify (!cs0n) (!cs1n) da true).isSome := by
  cases cs1n <;> cases cs0n
  · rw [decodeWord_bothSel]
    rfl
  · rw [decodeWord_controlBlock]
    rcases address_cases da with rfl | rfl | rfl | rfl | rfl | rfl | rfl | rfl <;> cases wr <;> rfl
  · rw [decodeWord_commandBlock]
    rcases address_cases da with rfl | rfl | rfl | rfl | rfl | rfl | rfl | rfl
    iterate 7 cases wr <;> rfl
    cases wr with
    | true => exact accessesRegister_command d
    | false => rfl
  · rw [decodeWord_noSel]
    rfl

/-- The code of the cycle on a sample's lines: Unrecognized where the classifier answers `None` (R106). -/
theorem outcome_afterCycle_of_lines (s : State) (p : Pres) (x : Sample) (wr : Bool) :
    if classify (!x.cs0) (!x.cs1) (regAddress p x) true = none then
      (s.afterCycle (decodeWord (cycleWord p x wr))).outcome = some .unrecognized
    else (s.afterCycle (decodeWord (cycleWord p x wr))).outcome ∈
      [some OutcomeCode.dispatched, some .noArm, some .ignoredData, some .restarted] := by
  have haccess := accessesRegister_joinFields (dataByte p x) (regAddress p x) x.cs1 x.cs0 wr
  rw [← cycleWord_eq_joinFields] at haccess
  split
  · next hnone =>
    rw [hnone] at haccess
    rw [afterCycle_of_no_register haccess, State.withOutcome_outcome]
  · next hsome => exact outcome_afterCycle_of_register (haccess.trans (Option.isSome_iff_ne_none.2 hsome))

/-! ### Strobe resolution (R109) -/

section
variable {s : State} {x : Sample}

theorem strobe_of_discarded (hw : fellDiow s x = true) (hr : fellDior s x = true) (hp : s.simulStrobe = .discard) :
    strobe s x = some none := by
  simp [strobe, hw, hr, hp]

/-- A falling strobe starts a cycle, but for two that the parameter discards. -/
theorem strobe_of_resolved (hfell : fellDiow s x = true ∨ fellDior s x = true)
    (hkeep : ¬(fellDiow s x = true ∧ fellDior s x = true ∧ s.simulStrobe = .discard)) :
    ∃ wr, strobe s x = some (some wr) := by
  unfold strobe
  cases hw : fellDiow s x <;> cases hr : fellDior s x
  · simp [hw, hr] at hfell
  · exact ⟨false, rfl⟩
  · exact ⟨true, rfl⟩
  · cases hp : s.simulStrobe with
    | write => exact ⟨true, rfl⟩
    | read => exact ⟨false, rfl⟩
    | discard => exact absurd ⟨hw, hr, hp⟩ hkeep

end

/-- Settles O31: condition by condition, each with the lemma on the step it ends; what passes strobe resolution and
squelch is a cycle, whose code the classification or the meaning gives. -/
theorem firstConditionGivesTheOutcome : Obligations.FirstConditionGivesTheOutcome := by
  intro s x rest hi hfell
  by_cases hdiscard : fellDiow s x = true ∧ fellDior s x = true ∧ s.simulStrobe = .discard
  · obtain ⟨hw, hr, hp⟩ := hdiscard
    refine ⟨_, step_of_discarded_strobes hi (strobe_of_discarded hw hr hp), ?_⟩
    rw [if_pos ⟨hw, hr, hp⟩, State.withOutcome_outcome]
  obtain ⟨wr, hs⟩ := strobe_of_resolved hfell hdiscard
  by_cases hq : squelched s x = true
  · refine ⟨_, step_of_squelched hi hs hq, ?_⟩
    rw [if_neg hdiscard, if_pos hq, State.withOutcome_outcome]
  · refine ⟨_, step_of_cycle_afterCycle hi hs (Bool.eq_false_iff.2 hq), ?_⟩
    rw [if_neg hdiscard, if_neg hq, State.release_outcome]
    exact outcome_afterCycle_of_lines _ s.pres x wr

end Sys2Proof.Machine
end

section
/-! Stale high-order bytes (70_reset_and_hazards.md, R265): while the HOB latch is clear no cycle reaches the registers
that make the addressing extended. -/

namespace Sys2Proof.Machine

theorem isExtended_set_of_not_mem {f : TfField} (hf : f ∉ extendingFields) (d : Byte) (t : TaskFile) :
    isExtended (t.set f d) = isExtended t := by
  cases f with
  | hobSectorCount | hobLba0 | hobLba1 | hobLba2 => exact absurd (by decide) hf
  | _ => rfl

/-- With the latch clear, every entry of R21's table is a register of the primary bank (R22). -/
theorem bankWrite_latch_clear {i : Instr} {f : TfField} {d : Byte} (hw : bankWrite i false = some (f, d)) :
    f ∉ extendingFields := by
  cases i with
  | featuresW | seccntW | lba0W | lba1W | lba2W | deviceW => cases hw; decide
  | _ => cases hw

theorem isExtended_afterCycle_latch_clear {s : State} (hhob : s.hobActive = false) (i : Instr) :
    isExtended (s.afterCycle i).tf = isExtended s.tf := by
  rw [State.afterCycle_tf, hhob]
  cases hw : bankWrite i false with
  | none => rfl
  | some entry => exact isExtended_set_of_not_mem (bankWrite_latch_clear hw) entry.2 s.tf

/-- Only a Device-Control write moves the latch (R23). -/
theorem latchAfter_of_not_devctl {i : Instr} (hi : ∀ d, i ≠ .devctlW d) (hob : Bool) : latchAfter hob i = hob := by
  cases i with
  | devctlW d => exact absurd rfl (hi d)
  | _ => rfl

/-- Settles O53, by induction on the cycles: each leaves the latch clear, and so the next one too stores outside the
registers that extend the addressing. -/
theorem staleHobBytesStayExtended : Obligations.StaleHobBytesStayExtended := by
  intro is
  induction is with
  | nil => exact fun s hhob _ => ⟨s, rfl, hhob, rfl⟩
  | cons i is ih =>
    intro s hhob hnone
    have hi (d : Byte) : i ≠ .devctlW d := fun h => hnone d (h ▸ List.mem_cons_self)
    have hlatch : (s.afterCycle i).hobActive = false := (latchAfter_of_not_devctl hi s.hobActive).trans hhob
    obtain ⟨t, hrun, hthob, hext⟩ := ih (s.afterCycle i) hlatch fun d h => hnone d (List.mem_cons_of_mem i h)
    refine ⟨t, (execAll_cons s i is).trans hrun, hthob, ?_⟩
    rw [hext, deriveAddressing_ext, deriveAddressing_ext, isExtended_afterCycle_latch_clear hhob]

end Sys2Proof.Machine
end
